-- ==== Sys2Proof/Word.lean ====
section
/-! DEFINITION. The two word types of the block: the byte a ring-buffer slot holds and the 16-bit command word
(spec/00_scope.md R11, spec/30_encoding.md R70). -/

namespace Sys2Proof

/-- An unsigned 8-bit value (R11); the element of both port instances (R6). -/
abbrev Byte := BitVec 8

/-- A command word, bit 0 least significant (R54, R70). -/
abbrev Word := BitVec 16

end Sys2Proof
end

