-- ==== Sys2Proof/Config.lean ====
section
/-! DEFINITION. The agents (R8), the environment's steps (R221, R223), the implementation parameters (R6) and the free
values: what the spec leaves to a draw, to the scheduler or to the implementation. A free value is a constant
with no body, so no proof can lean on what it is. -/

namespace Sys2Proof

/-- The four agents that step in a BS2-RBA model (R8). -/
inductive Agent where
  | fg
  | txi
  | rxi
  | env
  deriving DecidableEq, Repr

/-- The steps of the UART environment (R221, R223, R226). -/
inductive EnvStep where
  | txRise
  | txFall
  | rxDeliver (b : Byte)
  deriving DecidableEq, Repr, Inhabited

/-- One move: the agent that steps next and, for the environment, which of its steps. The next step of the other
three is fixed by the state (R79, R126, R140). -/
inductive Move where
  | fg
  | txi
  | rxi
  | env (e : EnvStep)
  deriving DecidableEq, Repr, Inhabited

/-- The agent that makes a move. -/
def Move.agent : Move → Agent
  | .fg => .fg
  | .txi => .txi
  | .rxi => .rxi
  | .env _ => .env

/-- The implementation parameters (R6, R221), fixed for the life of a model instance. A capacity is a positive number:
a configuration with capacity 0 is refused (R245 item 1), here by the type (log 6). -/
structure Config where
  cTx : ℕ+
  cRx : ℕ+
  lenMax : Nat
  term : Byte
  txReadyMayFall : Bool
  deriving DecidableEq, Repr

/-- OPEN (D3): the slots `tx` has beyond its first one, in the instance that `State.reset` describes. -/
opaque Config.openExtraTx : Nat

/-- OPEN (D3): the slots `rx` has beyond its first one, in the instance that `State.reset` describes. -/
opaque Config.openExtraRx : Nat

/-- The line terminator `puts` appends (R6 `TERM`, D30). PRESUMED by the spec itself (log 16). -/
def Config.defaultTerm : Byte := 0x0A#8

/-- LEN_MAX's default (R6, D26). -/
def Config.defaultLenMax : Nat := 2 ^ 32 - 1

/-- Open capacities, and the defaults R6 and R221 give the other parameters (log 5). -/
def Config.ofSpec : Config where
  cTx := Nat.succPNat Config.openExtraTx
  cRx := Nat.succPNat Config.openExtraRx
  lenMax := Config.defaultLenMax
  term := Config.defaultTerm
  txReadyMayFall := false

/-- FREE VALUE (R214; log 1): the move taken when the schedule names none. -/
opaque Config.freeMove : Nat → Move

/-- FREE VALUE (R222 `draw`; log 3): the readiness `UART_write` leaves when the list of draws is used up. -/
opaque Config.freeDraw : Nat → Bool

/-- FREE VALUE (R35 "draw"; log 4): `u.tx_ready` at power-on. -/
opaque Config.freeTxReadyAtReset : Bool

/-- FREE VALUE (R35 "draw"; log 4): `u.rx_ready` at power-on. -/
opaque Config.freeRxReadyAtReset : Bool

end Sys2Proof
end

