-- ==== Sys2Proof/Syntax.lean ====
section
/-! DEFINITION. The syntax of BS2-RBA commands: one constructor of `Instr` per row of the opcode map
(spec/30_encoding.md R73), the payload of a command (R70), and what each row says about itself. -/

namespace Sys2Proof

/-- The two ring-buffer instances (R2, R71 field `S`: 0 is `tx`, 1 is `rx`). -/
inductive Inst where
  | tx
  | rx
  deriving DecidableEq, Repr

/-- The payload presented with a command word (R70). -/
inductive Payload where
  | none
  | null
  | bytes (l : List Byte)
  deriving DecidableEq, Repr

/-- The payload a decoded PUTS or WRITE carries: R74 lets only `NULL` and `BYTES(l)` through. -/
inductive Buffer where
  | null
  | bytes (l : List Byte)
  deriving DecidableEq, Repr

/-- A command as presented on the port: the pair `(w, p)` of R70. -/
structure Command where
  word : Word
  payload : Payload
  deriving DecidableEq, Repr

/-- The fifteen operations of R73. `txisr` and `rxisr` are issued by the interrupt dispatch only (R76). -/
inductive Instr where
  | rbPush (inst : Inst) (d : Byte)
  | rbPop (inst : Inst)
  | rbEmpty (inst : Inst)
  | rbFull (inst : Inst)
  | prime
  | putc (d : Byte)
  | puts (p : Buffer)
  | write (p : Buffer)
  | getc
  | readable
  | sync
  | ctor (b : Bool)
  | dtor
  | txisr
  | rxisr
  deriving DecidableEq, Repr

/-- The command formats of R71. -/
inductive Format where
  | rbd
  | rb
  | n
  | d8
  | p
  | b
  deriving DecidableEq, Repr

/-- The column "issued by" of R73. -/
inductive IssuedBy where
  | port
  | dispatch
  deriving DecidableEq, Repr

/-- The format column of R73. -/
def Instr.format : Instr → Format
  | .rbPush _ _ => .rbd
  | .rbPop _ => .rb
  | .rbEmpty _ => .rb
  | .rbFull _ => .rb
  | .prime => .n
  | .putc _ => .d8
  | .puts _ => .p
  | .write _ => .p
  | .getc => .n
  | .readable => .n
  | .sync => .n
  | .ctor _ => .b
  | .dtor => .n
  | .txisr => .n
  | .rxisr => .n

/-- The column "issued by" of R73. -/
def Instr.issuedBy : Instr → IssuedBy
  | .rbPush _ _ => .port
  | .rbPop _ => .port
  | .rbEmpty _ => .port
  | .rbFull _ => .port
  | .prime => .port
  | .putc _ => .port
  | .puts _ => .port
  | .write _ => .port
  | .getc => .port
  | .readable => .port
  | .sync => .port
  | .ctor _ => .port
  | .dtor => .port
  | .txisr => .dispatch
  | .rxisr => .dispatch

end Sys2Proof
end

