-- ==== Sys2Proof/Machine/State.lean ====
section
/-! DEFINITION. Everything the machine holds (spec/10_state.md R20 to R35), its power-on state (R240), and the ways a
step can stop. All of it is plain data. -/

namespace Sys2Proof.Machine

/-- The causes of a recorded fault (R201). -/
inductive FaultCode where
  | illegalCmd
  | roleViolation
  | emptyRead
  | lifecycle
  | internal
  deriving DecidableEq, Repr

/-- The labels of the foreground micro-steps (R30): `L0` of every command, `W1` and `W9` of the enqueue loop (R150),
`P0` to `P3` of PRIME (R122), `K1` of the PRIME command (R123), `S1` of SYNC (R156). -/
inductive Label where
  | l0
  | w1
  | w9
  | p0
  | p1
  | p2
  | p3
  | k1
  | s1
  deriving DecidableEq, Repr

/-- `fg.state` (R30): IDLE, or BUSY with the decoded command, the label of its next micro-step and the payload
cursor. -/
inductive FgState where
  | idle
  | busy (cmd : Instr) (lbl : Label) (cursor : Nat)
  deriving DecidableEq, Repr

/-- The result of a completed command (R31). -/
inductive Result where
  | none
  | bool (b : Bool)
  | byte (v : Byte)
  | opt (v : Option Byte)
  | count (n : Nat)
  deriving DecidableEq, Repr

/-- The storage of one instance (R21, R50): the slots some push has written, by rising slot number. A slot that is
not listed holds `none`, so there is no default value an entry could repeat. -/
abbrev Memory (w : Nat) := List (Nat × BitVec w)

/-- The canonical form: slot numbers strictly rising. -/
abbrev Memory.wf {w : Nat} (m : Memory w) : Prop := m.Pairwise fun a b => a.1 < b.1

/-- A ring-buffer instance in the count form (R21), of element width `w` (R6, D2). Its capacity is a parameter. -/
structure Ring (w : Nat) where
  store : Memory w
  rd : Nat
  wr : Nat
  count : Nat
  deriving DecidableEq, Repr

/-- The UART environment (R32). -/
structure Uart where
  txReady : Bool
  rxReady : Bool
  rxData : Option Byte
  txWire : List Byte
  rxLog : List Byte
  deriving DecidableEq, Repr

/-- What one drain iteration answers (R120). -/
inductive Drain where
  | goOn
  | exit
  deriving DecidableEq, Repr

/-- Ways the model itself stops. Each marks a state shape that the spec's types exclude (log 11), so none is met from
a legal state. All are safe: the model stops where the hardware has no such state. -/
inductive Fault where
  /-- Raised by a storage access at a slot number not below the capacity (R53 says there is none). Safe. -/
  | slotOutsideStorage
  /-- Raised by a command at a label that is not one of its own (R30). Safe. -/
  | labelNotOfCommand
  /-- Raised by the enqueue loop with its cursor past the last byte (R150 leaves W1 before that). Safe. -/
  | cursorPastPayload
  deriving DecidableEq, Repr

/-- Instructions without a meaning. None is left. -/
inductive Refusal where
  /-- Raised by an arm of `exec` for an instruction that has no meaning yet. Safe. -/
  | notModelled (mnemonic : String)
  deriving DecidableEq, Repr

/-- Why a micro-step does not write its results: it holds (R10), it raises a fault the spec describes (R200), or the
model stops. -/
inductive Stop where
  | hold
  | raise (c : FaultCode)
  | halt (f : Fault)
  deriving DecidableEq, Repr

/-- The state of BS2-RBA (R20) and, below it, the model's own fields. `none` for `cfgBof`, `tx` or `rx` is the
spec's "no value" (R35; log 10). -/
structure State where
  life : Bool
  cfgBof : Option Bool
  txie : Bool
  rxie : Bool
  active : Bool
  fault : BitVec 3
  tx : Option (Ring 8)
  rx : Option (Ring 8)
  cpc : Nat
  fg : FgState
  results : List Result
  u : Uart
  /-- The parameters (R6); no step writes them (log 5). -/
  cfg : Config
  /-- The host's command list (R79); no step writes it (log 7). -/
  prog : List Command
  /-- The moves still scheduled (R214; log 1). -/
  sched : List Move
  /-- The values `UART_write` draws next (R222; log 3). -/
  draws : List Bool
  /-- How many free values have been taken (logs 1 and 3). -/
  freeTick : Nat
  deriving DecidableEq, Repr

/-- Power-on (R35, R240). The two "draw" entries are free values (log 4); the model's own fields hold the values
logs 1, 3, 5 and 7 name. -/
def State.reset : State where
  life := false
  cfgBof := none
  txie := false
  rxie := false
  active := false
  fault := 0#3
  tx := none
  rx := none
  cpc := 0
  fg := .idle
  results := []
  u := { txReady := Config.freeTxReadyAtReset, rxReady := Config.freeRxReadyAtReset, rxData := none,
         txWire := [], rxLog := [] }
  cfg := Config.ofSpec
  prog := []
  sched := []
  draws := []
  freeTick := 0

end Sys2Proof.Machine
end

