-- ==== Sys2Proof/Machine/Flags.lean ====
section
/-! DEFINITION. The one-bit conditions of the block: empty and full (R23, R102, R103), the interrupt requests (R211), the
enabling conditions of the agents' steps (R212, R213, R216) and the fault codes as bits (R201). -/

namespace Sys2Proof.Machine

/-- R102: `RB_empty(rb)`. -/
def Ring.isEmpty {w : Nat} (rb : Ring w) : Bool := rb.count == 0

/-- R103: `RB_full(rb)` of an instance of capacity `c`. -/
def Ring.isFull {w : Nat} (c : Nat) (rb : Ring w) : Bool := rb.count == c

/-- The code FAULT records (R201). -/
def FaultCode.bits : FaultCode → BitVec 3
  | .illegalCmd => 1#3
  | .roleViolation => 2#3
  | .emptyRead => 3#3
  | .lifecycle => 4#3
  | .internal => 5#3

/-- No fault is recorded (R28). -/
def State.noFault (s : State) : Bool := s.fault == 0#3

/-- R211: the TX source requests while TXIE = 1 and the hardware is ready. -/
def State.txRequests (s : State) : Bool := s.txie && s.u.txReady

/-- R211: the RX source requests while RXIE = 1 and a byte is ready. -/
def State.rxRequests (s : State) : Bool := s.rxie && s.u.rxReady

/-- R212: transmit service entry is enabled. -/
def State.txEntryEnabled (s : State) : Bool := s.noFault && !s.active && s.txRequests

/-- R126: the transmit service sequence is at T1 and may step. -/
def State.txServiceEnabled (s : State) : Bool := s.noFault && s.active

/-- R213: receive service is enabled. -/
def State.rxServiceEnabled (s : State) : Bool := s.noFault && !s.active && s.rxRequests

/-- R216: the part of every foreground step's guard that does not depend on the step. -/
def State.fgMayStep (s : State) : Bool := s.noFault && !s.active

end Sys2Proof.Machine
end

