-- ==== Sys2Proof/Machine/Operands.lean ====
section
/-! DEFINITION. The operands of commands: the instance an `S` bit names with its capacity (R21, R77), and the byte list and
count of a write-family command (R151 to R153). -/

namespace Sys2Proof.Machine

/-- The capacity of an instance (R21: `C_TX` or `C_RX`). -/
def State.capacity (s : State) : Inst → Nat
  | .tx => s.cfg.cTx
  | .rx => s.cfg.cRx

/-- What an instance holds; `none` is "no value" (R35). -/
def State.instance? (s : State) : Inst → Option (Ring 8)
  | .tx => s.tx
  | .rx => s.rx

/-- The state with one instance replaced. -/
def State.setInstance (s : State) : Inst → Ring 8 → State
  | .tx, rb => { s with tx := some rb }
  | .rx, rb => { s with rx := some rb }

/-- R152: the longest prefix that contains no 0x00. -/
def cStringBody : List Byte → List Byte
  | [] => []
  | b :: l => if b = 0#8 then [] else b :: cStringBody l

/-- R152: the bytes PUTS enqueues for `BYTES(l)`. -/
def putsBytes (term : Byte) (l : List Byte) : List Byte := cStringBody l ++ [term]

/-- R152: the result of PUTS for `BYTES(l)`, which counts the terminator. -/
def putsResult (l : List Byte) : Result := .count ((cStringBody l).length + 1)

/-- R153: the result of a non-empty WRITE. -/
def writeResult (l : List Byte) : Result := .count l.length

end Sys2Proof.Machine
end

