-- ==== Sys2Proof/Machine/Ops.lean ====
section
/-! DEFINITION. The named operations every meaning is built from: storage reads and writes (R51, R52), the ring-buffer
primitives (R100, R101), the UART operations (R222, R224), recording a fault (R200), completing a command (R78),
moving to a label (R10), interrupt entry and return (R212, R218). A micro-step answers `Except Stop`: either its
whole result or why it wrote nothing. -/

namespace Sys2Proof.Machine

/-! ## Storage -/

/-- The content of slot `i`; `none` when no push has written it (R21). -/
def Memory.read {w : Nat} : Memory w → Nat → Option (BitVec w)
  | [], _ => none
  | (a, v) :: m, i => if i = a then some v else Memory.read m i

/-- Slot `i` set to `v` and nothing else changed (R52); the slot numbers stay rising. -/
def Memory.write {w : Nat} : Memory w → Nat → BitVec w → Memory w
  | [], i, v => [(i, v)]
  | (a, x) :: m, i, v =>
    if i < a then (i, v) :: (a, x) :: m
    else if i = a then (i, v) :: m
    else (a, x) :: Memory.write m i v

/-- R51 `MemRead(rb, i)`: the slot's value, INTERNAL when it holds `none`. Slots end at the capacity `c` (R53; log 11). -/
def Ring.memRead {w : Nat} (c : Nat) (rb : Ring w) (i : Nat) : Except Stop (BitVec w) :=
  if i < c then
    match rb.store.read i with
    | some v => .ok v
    | none => .error (.raise .internal)
  else .error (.halt .slotOutsideStorage)

/-- R52 `MemWrite(rb, i, v)`. Slots end at the capacity `c` (R53; log 11). -/
def Ring.memWrite {w : Nat} (c : Nat) (rb : Ring w) (i : Nat) (v : BitVec w) : Except Stop (Ring w) :=
  if i < c then .ok { rb with store := rb.store.write i v }
  else .error (.halt .slotOutsideStorage)

/-! ## Ring-buffer primitives, for any capacity and element width -/

/-- What R241 leaves of an instance: no slot written, indices and count 0. -/
def Ring.constructed {w : Nat} : Ring w := { store := [], rd := 0, wr := 0, count := 0 }

/-- R100 `RB_push(rb, v)`: overwrite-oldest. -/
def Ring.push {w : Nat} (c : Nat) (rb : Ring w) (v : BitVec w) : Except Stop (Ring w) :=
  if rb.isFull c then do
    let rb' ← ({ rb with rd := (rb.rd + 1) % c } : Ring w).memWrite c rb.wr v
    .ok { rb' with wr := (rb'.wr + 1) % c }
  else do
    let rb' ← rb.memWrite c rb.wr v
    .ok { rb' with wr := (rb'.wr + 1) % c, count := rb'.count + 1 }

/-- R101 `RB_pop(rb)`: `none` and no change when empty. -/
def Ring.pop {w : Nat} (c : Nat) (rb : Ring w) : Except Stop (Option (BitVec w) × Ring w) :=
  if rb.isEmpty then .ok (none, rb)
  else do
    let v ← rb.memRead c rb.rd
    .ok (some v, { rb with rd := (rb.rd + 1) % c, count := rb.count - 1 })

/-- A value the state holds; reading "no value" is INTERNAL (R35). -/
def valueOf {α : Type} : Option α → Except Stop α
  | some a => .ok a
  | none => .error (.raise .internal)

/-- `RB_push` on an instance of the port. -/
def State.push (s : State) (r : Inst) (v : Byte) : Except Stop State := do
  let rb ← valueOf (s.instance? r)
  let rb' ← rb.push (s.capacity r) v
  .ok (s.setInstance r rb')

/-- `RB_pop` on an instance of the port. -/
def State.pop (s : State) (r : Inst) : Except Stop (Option Byte × State) := do
  let rb ← valueOf (s.instance? r)
  let x ← rb.pop (s.capacity r)
  .ok (x.1, s.setInstance r x.2)

/-- `RB_empty` on an instance of the port. -/
def State.ringEmpty (s : State) (r : Inst) : Except Stop Bool := do
  let rb ← valueOf (s.instance? r)
  .ok rb.isEmpty

/-- `RB_full` on an instance of the port. -/
def State.ringFull (s : State) (r : Inst) : Except Stop Bool := do
  let rb ← valueOf (s.instance? r)
  .ok (rb.isFull (s.capacity r))

/-! ## UART operations -/

/-- The value `UART_write` draws for `u.tx_ready` (R222): the next of `draws`, else a free value (log 3). -/
def State.takeDraw (s : State) : Bool × State :=
  match s.draws with
  | d :: ds => (d, { s with draws := ds })
  | [] => (Config.freeDraw s.freeTick, { s with freeTick := s.freeTick + 1 })

/-- R222 `UART_write(b)`. -/
def State.uartWrite (s : State) (b : Byte) : Except Stop State :=
  if s.u.txReady then
    let x := s.takeDraw
    .ok { x.2 with u := { x.2.u with txWire := x.2.u.txWire ++ [b], txReady := x.1 } }
  else .error (.raise .internal)

/-- R224 `UART_read()`. -/
def State.uartRead (s : State) : Except Stop (Byte × State) :=
  if s.u.rxReady then
    match s.u.rxData with
    | some v => .ok (v, { s with u := { s.u with rxReady := false } })
    | none => .error (.raise .internal)
  else .error (.raise .internal)

/-! ## Faults -/

/-- R200 `raise Fault(code)`: FAULT takes the code if it was 0; nothing else changes. -/
def State.raise (s : State) (c : FaultCode) : State :=
  if s.fault = 0#3 then { s with fault := c.bits } else s

/-- The end of a micro-step that started in `s`: its result, no change at all when it holds (R10; log 2), or the
fault it raised on the state as it was (R200: the step's other writes are discarded). -/
def State.settle (s : State) : Except Stop State → Host.Outcome State Fault Refusal
  | .ok s' => .next s'
  | .error .hold => .next s
  | .error (.raise c) => .next (s.raise c)
  | .error (.halt f) => .fault f

/-- R205: `if LIFE = 0 then raise Fault(LIFECYCLE)`, the first check of every command but CTOR. -/
def State.requireLife (s : State) : Except Stop Unit :=
  if s.life then .ok () else .error (.raise .lifecycle)

/-! ## The foreground micro-sequencer -/

/-- R10 `goto l`: the command goes on at label `l` with payload cursor `k`. -/
def State.goto (s : State) (i : Instr) (l : Label) (k : Nat) : State :=
  { s with fg := .busy i l k }

/-- R78 `return r`. -/
def State.complete (s : State) (r : Result) : State :=
  { s with results := s.results ++ [r], fg := .idle, cpc := s.cpc + 1 }

/-- One foreground micro-step of command `i`. From IDLE it is the start step of R79, which makes the command BUSY at `L0`;
while `i` is the outstanding command it is the micro-step at the command's label. Without an enabled step (R216), or
while another command is outstanding (R79; log 12), the foreground holds. -/
def State.fgStep (s : State) (i : Instr) (body : Label → Nat → Except Stop State) :
    Host.Outcome State Fault Refusal :=
  if s.fgMayStep then
    match s.fg with
    | .idle => .next (s.goto i .l0 0)
    | .busy c l k => if c = i then s.settle (body l k) else .next s
  else .next s

/-- The labels of a command whose rule is the one labelled step `L0`. -/
def atL0 (body : Except Stop State) (l : Label) (_k : Nat) : Except Stop State :=
  if l = .l0 then body else .error (.halt .labelNotOfCommand)

/-! ## Interrupt entry and return -/

/-- R212: transmit service entry. It saves nothing and changes ACTIVE only (R217). -/
def State.txEntry (s : State) : State := { s with active := true }

/-- R218: return from the transmit service sequence. -/
def State.txReturn (s : State) : State := { s with active := false }

/-! ## Attach and detach (R25, R26, D36) -/

/-- Attach or detach the transmit handler. -/
def State.setTxie (s : State) (b : Bool) : State := { s with txie := b }

/-- Attach or detach the receive handler. -/
def State.setRxie (s : State) (b : Bool) : State := { s with rxie := b }

end Sys2Proof.Machine
end

