-- ==== Sys2Proof/Machine/Arbiter.lean ====
section
/-! DEFINITION. The transmit prime/drain arbiter (spec/41_tx_arbiter.md): the drain iteration R120, the PRIME sequence R122,
the PRIME command R123 and the transmit interrupt service sequence R126. -/

namespace Sys2Proof.Machine

/-- R120 `drain_iter()`: readiness test, pop and write in one step. An empty `tx` with the hardware ready sets
TXIE to DISABLED. -/
def State.drainIter (s : State) : Except Stop (State × Drain) :=
  if s.u.txReady then do
    let x ← s.pop .tx
    match x.1 with
    | some b => do
      let s' ← x.2.uartWrite b
      .ok (s', .goOn)
    | none => .ok (x.2.setTxie false, .exit)
  else .ok (s, .exit)

/-- R122, labels P0 to P3, run by command `i` with payload cursor `n` and continuation label `k`. -/
def primeStep (i : Instr) (k : Label) (l : Label) (n : Nat) (s : State) : Except Stop State :=
  match l with
  | .p0 => .ok (s.goto i (if s.u.txReady then .p1 else k) n)
  | .p1 => .ok ((s.setTxie false).goto i .p2 n)
  | .p2 => do
    let x ← s.drainIter
    .ok (x.1.goto i (if x.2 = .goOn then .p2 else .p3) n)
  | .p3 => .ok ((s.setTxie true).goto i k n)
  | .l0 | .w1 | .w9 | .k1 | .s1 => .error (.halt .labelNotOfCommand)

/-- R123, every label of PRIME. -/
def primeCmdStep (s : State) (l : Label) (n : Nat) : Except Stop State :=
  match l with
  | .l0 => do
    s.requireLife
    .ok (s.goto .prime .p0 n)
  | .k1 => .ok (s.complete .none)
  | .p0 | .p1 | .p2 | .p3 | .w1 | .w9 | .s1 => primeStep .prime .k1 l n s

/-- R123 PRIME. -/
def execPrime (s : State) : Host.Outcome State Fault Refusal :=
  s.fgStep .prime (primeCmdStep s)

/-- R126, label T1: one drain iteration, and return from the interrupt when it exits. -/
def txServiceStep (s : State) : Except Stop State := do
  let x ← s.drainIter
  .ok (if x.2 = .goOn then x.1 else x.1.txReturn)

/-- R126 TXISR, the next step of agent TXI: service entry when it is enabled (R212), the T1 step while the sequence
runs, no step otherwise. -/
def execTxisr (s : State) : Host.Outcome State Fault Refusal :=
  if s.txServiceEnabled then s.settle (txServiceStep s)
  else if s.txEntryEnabled then .next s.txEntry
  else .next s

end Sys2Proof.Machine
end

