-- ==== Sys2Proof/Machine/Lifecycle.lean ====
section
/-! DEFINITION. Construction and teardown (spec/70_reset_and_hazards.md R241, R242). -/

namespace Sys2Proof.Machine

/-- What R241 writes: both instances empty with every slot `none`, the policy, TXIE DISABLED, the receive handler
attached, CONSTRUCTED. -/
def State.construct (s : State) (b : Bool) : State :=
  { s with tx := some Ring.constructed, rx := some Ring.constructed, cfgBof := some b,
           txie := false, rxie := true, life := true }

/-- What R242 writes: both handlers detached, the instances and the policy without a value, UNCONSTRUCTED. -/
def State.teardown (s : State) : State :=
  { s with rxie := false, txie := false, tx := none, rx := none, cfgBof := none, life := false }

/-- R241, label L0. -/
def ctorStep (b : Bool) (s : State) : Except Stop State :=
  if s.life then .error (.raise .lifecycle) else .ok ((s.construct b).complete .none)

/-- R241 CTOR. -/
def execCtor (b : Bool) (s : State) : Host.Outcome State Fault Refusal :=
  s.fgStep (.ctor b) (atL0 (ctorStep b s))

/-- R242, label L0. -/
def dtorStep (s : State) : Except Stop State := do
  s.requireLife
  .ok (s.teardown.complete .none)

/-- R242 DTOR. -/
def execDtor (s : State) : Host.Outcome State Fault Refusal :=
  s.fgStep .dtor (atL0 (dtorStep s))

end Sys2Proof.Machine
end

