-- ==== Sys2Proof/Machine/Port.lean ====
section
/-! DEFINITION. The port surface commands (spec/43_port_surface.md R150 to R156). -/

namespace Sys2Proof.Machine

/-- R150: does `W1` hold? Only with CFG.BOF = 1 is `RB_full(tx)` looked at (log 15). -/
def State.mustWait (s : State) : Except Stop Bool := do
  let bof ← valueOf s.cfgBof
  if bof then s.ringFull .tx else .ok false

/-- R150, label W1 of command `i` sending `bs`, with payload cursor `n`. -/
def enqueueByte (i : Instr) (bs : List Byte) (n : Nat) (s : State) : Except Stop State := do
  let wait ← s.mustWait
  if wait then .error .hold
  else
    match bs[n]? with
    | some b => do
      let s' ← s.push .tx b
      .ok (s'.goto i (if n + 1 < bs.length then .w1 else .p0) (n + 1))
    | none => .error (.halt .cursorPastPayload)

/-- R150 `enqueue(bs, res)`, its labels W1 and W9 and the prime sequence between them (R122 with K = W9). -/
def enqueueStep (i : Instr) (bs : List Byte) (res : Result) (l : Label) (n : Nat) (s : State) :
    Except Stop State :=
  match l with
  | .w1 => enqueueByte i bs n s
  | .w9 => .ok (s.complete res)
  | .p0 | .p1 | .p2 | .p3 | .l0 | .k1 | .s1 => primeStep i .w9 l n s

/-- The lifecycle check of a write-family command, then `goto enqueue`: label W1 with the cursor at 0 (R150). -/
def enterEnqueue (i : Instr) (s : State) : Except Stop State := do
  s.requireLife
  .ok (s.goto i .w1 0)

/-- The lifecycle check of a write-family call that is a no-op (R157), and its result. -/
def noOpWrite (s : State) : Except Stop State := do
  s.requireLife
  .ok (s.complete (.count 0))

/-- R151, every label of PUTC. -/
def putcStep (d : Byte) (s : State) (l : Label) (n : Nat) : Except Stop State :=
  if l = .l0 then enterEnqueue (.putc d) s
  else enqueueStep (.putc d) [d] .none l n s

/-- R151 PUTC. -/
def execPutc (d : Byte) (s : State) : Host.Outcome State Fault Refusal :=
  s.fgStep (.putc d) (putcStep d s)

/-- R152, every label of PUTS. -/
def putsStep (p : Buffer) (s : State) (l : Label) (n : Nat) : Except Stop State :=
  match p with
  | .null => atL0 (noOpWrite s) l n
  | .bytes bs =>
    if l = .l0 then enterEnqueue (.puts p) s
    else enqueueStep (.puts p) (putsBytes s.cfg.term bs) (putsResult bs) l n s

/-- R152 PUTS. -/
def execPuts (p : Buffer) (s : State) : Host.Outcome State Fault Refusal :=
  s.fgStep (.puts p) (putsStep p s)

/-- R153, every label of WRITE. -/
def writeStep (p : Buffer) (s : State) (l : Label) (n : Nat) : Except Stop State :=
  match p with
  | .null => atL0 (noOpWrite s) l n
  | .bytes [] => atL0 (noOpWrite s) l n
  | .bytes (b :: bs) =>
    if l = .l0 then enterEnqueue (.write p) s
    else enqueueStep (.write p) (b :: bs) (writeResult (b :: bs)) l n s

/-- R153 WRITE. -/
def execWrite (p : Buffer) (s : State) : Host.Outcome State Fault Refusal :=
  s.fgStep (.write p) (writeStep p s)

/-- R154, label L0. -/
def getcStep (s : State) : Except Stop State := do
  s.requireLife
  let x ← s.pop .rx
  match x.1 with
  | some v => .ok (x.2.complete (.byte v))
  | none => .error (.raise .emptyRead)

/-- R154 GETC. -/
def execGetc (s : State) : Host.Outcome State Fault Refusal :=
  s.fgStep .getc (atL0 (getcStep s))

/-- R155, label L0. -/
def readableStep (s : State) : Except Stop State := do
  s.requireLife
  let b ← s.ringEmpty .rx
  .ok (s.complete (.bool (!b)))

/-- R155 READABLE. -/
def execReadable (s : State) : Host.Outcome State Fault Refusal :=
  s.fgStep .readable (atL0 (readableStep s))

/-- R156, every label of SYNC. `S1` holds until `tx` is empty. -/
def syncStep (s : State) (l : Label) (n : Nat) : Except Stop State :=
  match l with
  | .l0 => do
    s.requireLife
    .ok (s.goto .sync .s1 n)
  | .s1 => do
    let b ← s.ringEmpty .tx
    if b then .ok (s.complete .none) else .error .hold
  | .w1 | .w9 | .p0 | .p1 | .p2 | .p3 | .k1 => .error (.halt .labelNotOfCommand)

/-- R156 SYNC. -/
def execSync (s : State) : Host.Outcome State Fault Refusal :=
  s.fgStep .sync (syncStep s)

end Sys2Proof.Machine
end

