-- ==== Sys2Proof/Machine/Receive.lean ====
section
/-! DEFINITION. The receive interrupt service sequence (spec/42_rx_path.md R140). -/

namespace Sys2Proof.Machine

/-- R140: entry, body and return in one atomic step. -/
def rxServiceStep (s : State) : Except Stop State := do
  let x ← s.uartRead
  x.2.push .rx x.1

/-- R140 RXISR, the next step of agent RXI, when it is enabled (R213). -/
def execRxisr (s : State) : Host.Outcome State Fault Refusal :=
  if s.rxServiceEnabled then s.settle (rxServiceStep s) else .next s

end Sys2Proof.Machine
end

