-- ==== Sys2Proof/Machine/RingBuffer.lean ====
section
/-! DEFINITION. The four RB commands (spec/40_ringbuffer.md R104, R107 to R110). -/

namespace Sys2Proof.Machine

/-- R104: the agents that may push into an instance. -/
def mayPush : Agent → Inst → Bool
  | .fg, .tx => true
  | .rxi, .rx => true
  | _, _ => false

/-- R104: the agents that may pop from an instance. FG pops `tx` only inside the PRIME drain, which no RB command is. -/
def mayPop : Agent → Inst → Bool
  | .txi, .tx => true
  | .fg, .rx => true
  | _, _ => false

/-- A role check of an RB command, which FG runs (R203). -/
def requireRole (held : Bool) : Except Stop Unit :=
  if held then .ok () else .error (.raise .roleViolation)

/-- R107, label L0. CFG.BOF is not consulted and PRIME is not run (D41). -/
def rbPushStep (r : Inst) (d : Byte) (s : State) : Except Stop State := do
  s.requireLife
  requireRole (mayPush .fg r)
  let s' ← s.push r d
  .ok (s'.complete .none)

/-- R107 RB.PUSH. -/
def execRbPush (r : Inst) (d : Byte) (s : State) : Host.Outcome State Fault Refusal :=
  s.fgStep (.rbPush r d) (atL0 (rbPushStep r d s))

/-- R108, label L0. An empty `rx` is no fault (R101, R208). -/
def rbPopStep (r : Inst) (s : State) : Except Stop State := do
  s.requireLife
  requireRole (mayPop .fg r)
  let x ← s.pop r
  .ok (x.2.complete (.opt x.1))

/-- R108 RB.POP. -/
def execRbPop (r : Inst) (s : State) : Host.Outcome State Fault Refusal :=
  s.fgStep (.rbPop r) (atL0 (rbPopStep r s))

/-- R109, label L0. -/
def rbEmptyStep (r : Inst) (s : State) : Except Stop State := do
  s.requireLife
  let b ← s.ringEmpty r
  .ok (s.complete (.bool b))

/-- R109 RB.EMPTY. -/
def execRbEmpty (r : Inst) (s : State) : Host.Outcome State Fault Refusal :=
  s.fgStep (.rbEmpty r) (atL0 (rbEmptyStep r s))

/-- R110, label L0. -/
def rbFullStep (r : Inst) (s : State) : Except Stop State := do
  s.requireLife
  let b ← s.ringFull r
  .ok (s.complete (.bool b))

/-- R110 RB.FULL. -/
def execRbFull (r : Inst) (s : State) : Host.Outcome State Fault Refusal :=
  s.fgStep (.rbFull r) (atL0 (rbFullStep r s))

end Sys2Proof.Machine
end

