-- ==== Sys2Proof/Machine/Dispatch.lean ====
section
/-! DEFINITION. One arm per instruction: the next micro-step of that instruction (spec/30_encoding.md R73). -/

namespace Sys2Proof.Machine

def exec (i : Instr) (s : State) : Host.Outcome State Fault Refusal :=
  match i with
  | .rbPush r d => Sys2Proof.Machine.execRbPush r d s
  | .rbPop r => Sys2Proof.Machine.execRbPop r s
  | .rbEmpty r => Sys2Proof.Machine.execRbEmpty r s
  | .rbFull r => Sys2Proof.Machine.execRbFull r s
  | .prime => Sys2Proof.Machine.execPrime s
  | .putc d => Sys2Proof.Machine.execPutc d s
  | .puts p => Sys2Proof.Machine.execPuts p s
  | .write p => Sys2Proof.Machine.execWrite p s
  | .getc => Sys2Proof.Machine.execGetc s
  | .readable => Sys2Proof.Machine.execReadable s
  | .sync => Sys2Proof.Machine.execSync s
  | .ctor b => Sys2Proof.Machine.execCtor b s
  | .dtor => Sys2Proof.Machine.execDtor s
  | .txisr => Sys2Proof.Machine.execTxisr s
  | .rxisr => Sys2Proof.Machine.execRxisr s

end Sys2Proof.Machine
end

