-- ==== Sys2Proof/WellFormed.lean ====
section
/-! DEFINITION. Well-formedness of a command: the one bound R83 puts on operands. Every other operand range of R71 is
enforced by the types of `Instr`. -/

namespace Sys2Proof

/-- A payload holds at most `LEN_MAX` bytes (R75, R83). -/
def Buffer.fits (lenMax : Nat) : Buffer → Bool
  | .null => true
  | .bytes l => decide (l.length ≤ lenMax)

/-- R83: the `BYTES` payload of PUTS and of WRITE is bounded by `LEN_MAX`. -/
def Instr.wf (lenMax : Nat) : Instr → Bool
  | .rbPush _ _ => true
  | .rbPop _ => true
  | .rbEmpty _ => true
  | .rbFull _ => true
  | .prime => true
  | .putc _ => true
  | .puts p => p.fits lenMax
  | .write p => p.fits lenMax
  | .getc => true
  | .readable => true
  | .sync => true
  | .ctor _ => true
  | .dtor => true
  | .txisr => true
  | .rxisr => true

end Sys2Proof
end

