-- ==== Sys2Proof/Decode.lean ====
section
/-! DEFINITION. Encoding and decoding (spec/30_encoding.md R71 to R77, R82, R83; spec/20_memory.md R54): the fields of a
command word, the port decoder of R74, the table reader that also knows the two entry codes of R76, the encoder
and the opcode table's rows. -/

namespace Sys2Proof

/-! ## Fields of a command word (R71) -/

/-- `OP`, bits 15 to 12. -/
def opField (w : Word) : BitVec 4 := w.extractLsb' 12 4

/-- `S`, bit 11. -/
def sField (w : Word) : Bool := w.getLsbD 11

/-- `Z`, bits 10 to 8. -/
def zField (w : Word) : BitVec 3 := w.extractLsb' 8 3

/-- `D`, bits 7 to 0. -/
def dField (w : Word) : Byte := w.extractLsb' 0 8

/-- The word with these fields and `Z = 000`. -/
def mkWord (op : BitVec 4) (s : Bool) (d : Byte) : Word := op ++ BitVec.ofBool s ++ 0#3 ++ d

/-- R77: the instance is `tx` when `S = 0` and `rx` when `S = 1`. -/
def instOfBit : Bool → Inst
  | false => .tx
  | true => .rx

/-- The `S` bit that names an instance. -/
def bitOfInst : Inst → Bool
  | .tx => false
  | .rx => true

/-! ## The port decoder (R74, R75) -/

/-- Why a command is ILLEGAL: the cases R75 lists, and a transport of the wrong length (log 19). -/
inductive Illegal where
  /-- `OP = 0x0`. -/
  | opZero
  /-- `OP = 0xE` or `0xF` presented on the port. -/
  | entryCode
  /-- `Z` is not 000. -/
  | zNonzero
  /-- `S = 1` outside the RB group. -/
  | sOutsideRbGroup
  /-- `D` is nonzero where the format has zeros. -/
  | dNonzero
  /-- The payload is of the wrong kind. -/
  | payloadKind
  /-- A `BYTES` payload longer than `LEN_MAX`. -/
  | payloadTooLong
  /-- Not exactly the two bytes of one word (R71: the only length is one 16-bit word). -/
  | wrongLength
  deriving DecidableEq, Repr

/-- Answer `i` if the check holds, else reject for the reason given. -/
def checked (ok : Bool) (why : Illegal) (i : Except Illegal Instr) : Except Illegal Instr :=
  if ok then i else .error why

/-- Format RB: `D = 0` and no payload. -/
def decodeRb (w : Word) (p : Payload) (i : Inst → Instr) : Except Illegal Instr :=
  checked (dField w == 0#8) .dNonzero <|
  checked (p == .none) .payloadKind <|
  .ok (i (instOfBit (sField w)))

/-- Format N: `S = 0`, `D = 0` and no payload. -/
def decodeN (w : Word) (p : Payload) (i : Instr) : Except Illegal Instr :=
  checked (!sField w) .sOutsideRbGroup <|
  checked (dField w == 0#8) .dNonzero <|
  checked (p == .none) .payloadKind <|
  .ok i

/-- Format P: `S = 0`, `D = 0`, and a payload `NULL` or `BYTES(l)` with at most `LEN_MAX` bytes. -/
def decodeP (lenMax : Nat) (w : Word) (p : Payload) (i : Buffer → Instr) : Except Illegal Instr :=
  checked (!sField w) .sOutsideRbGroup <|
  checked (dField w == 0#8) .dNonzero <|
  match p with
  | .none => .error .payloadKind
  | .null => .ok (i .null)
  | .bytes l => checked (decide (l.length ≤ lenMax)) .payloadTooLong (.ok (i (.bytes l)))

/-- R74 `decode(w, p)`, with `LEN_MAX` as an argument. It is total: every pair is one command or ILLEGAL. -/
def decode (lenMax : Nat) (w : Word) (p : Payload) : Except Illegal Instr :=
  checked (zField w == 0#3) .zNonzero <|
  match (opField w).toNat with
  | 0x0 => .error .opZero
  | 0x1 => checked (p == .none) .payloadKind (.ok (.rbPush (instOfBit (sField w)) (dField w)))
  | 0x2 => decodeRb w p .rbPop
  | 0x3 => decodeRb w p .rbEmpty
  | 0x4 => decodeRb w p .rbFull
  | 0x5 => decodeN w p .prime
  | 0x6 =>
    checked (!sField w) .sOutsideRbGroup <|
    checked (p == .none) .payloadKind <|
    .ok (.putc (dField w))
  | 0x7 => decodeP lenMax w p .puts
  | 0x8 => decodeP lenMax w p .write
  | 0x9 => decodeN w p .getc
  | 0xA => decodeN w p .readable
  | 0xB => decodeN w p .sync
  | 0xC =>
    checked (!sField w) .sOutsideRbGroup <|
    checked ((dField w).extractLsb' 1 7 == 0#7) .dNonzero <|
    checked (p == .none) .payloadKind <|
    .ok (.ctor ((dField w).getLsbD 0))
  | 0xD => decodeN w p .dtor
  | _ => .error .entryCode

/-! ## Transport over an 8-bit path (R54) -/

/-- The word whose low byte travels first (R54). -/
def wordOfBytes (lo hi : Byte) : Word := hi ++ lo

/-- The bytes of a word in the order R54 sends them. -/
def bytesOfWord (w : Word) : List Byte := [w.extractLsb' 0 8, w.extractLsb' 8 8]

/-- Decode a command word that arrived as bytes; anything but two bytes is no command word (log 19). -/
def decodeBytes (lenMax : Nat) (bs : List Byte) (p : Payload) : Except Illegal Instr :=
  match bs with
  | [lo, hi] => decode lenMax (wordOfBytes lo hi) p
  | _ => .error .wrongLength

/-! ## Entry codes and the whole opcode map (R73, R76) -/

/-- R76: 0xE000 names TXISR and 0xF000 names RXISR, in traces and in the opcode table. The port refuses both (R75). -/
def entryCode (w : Word) : Option Instr :=
  if w = 0xE000#16 then some .txisr else if w = 0xF000#16 then some .rxisr else none

/-- What a row of the opcode map R73 names: an entry code of the dispatch, else a port command (log 9). -/
def decodeRow (lenMax : Nat) (w : Word) (p : Payload) : Option Instr :=
  match entryCode w with
  | some i => if p = .none then some i else none
  | none => (decode lenMax w p).toOption

/-- The payload of a bare opcode-table word: a null pointer for format P, which needs a payload, none otherwise (log 8). -/
def tablePayload (w : Word) : Payload :=
  if opField w = 7#4 ∨ opField w = 8#4 then .null else .none

/-- The instruction the decoder reads from an opcode-table word of `nbits` bits. -/
def decodeTableWord (nbits w : Nat) : Option Instr :=
  if nbits ≤ 16 ∧ w < 2 ^ nbits then
    let word := wordOfBytes (BitVec.ofNat 8 w) (BitVec.ofNat 8 (w / 256))
    decodeRow Config.defaultLenMax word (tablePayload word)
  else none

/-! ## The encoder (R71, R73) -/

/-- The operation code of R73. -/
def Instr.opcode : Instr → BitVec 4
  | .rbPush _ _ => 0x1#4
  | .rbPop _ => 0x2#4
  | .rbEmpty _ => 0x3#4
  | .rbFull _ => 0x4#4
  | .prime => 0x5#4
  | .putc _ => 0x6#4
  | .puts _ => 0x7#4
  | .write _ => 0x8#4
  | .getc => 0x9#4
  | .readable => 0xA#4
  | .sync => 0xB#4
  | .ctor _ => 0xC#4
  | .dtor => 0xD#4
  | .txisr => 0xE#4
  | .rxisr => 0xF#4

/-- The `S` bit a command is written with (R71). -/
def Instr.sBit : Instr → Bool
  | .rbPush r _ => bitOfInst r
  | .rbPop r => bitOfInst r
  | .rbEmpty r => bitOfInst r
  | .rbFull r => bitOfInst r
  | .prime => false
  | .putc _ => false
  | .puts _ => false
  | .write _ => false
  | .getc => false
  | .readable => false
  | .sync => false
  | .ctor _ => false
  | .dtor => false
  | .txisr => false
  | .rxisr => false

/-- The `D` byte a command is written with (R71). -/
def Instr.dByte : Instr → Byte
  | .rbPush _ d => d
  | .putc d => d
  | .ctor b => BitVec.setWidth 8 (BitVec.ofBool b)
  | .rbPop _ => 0#8
  | .rbEmpty _ => 0#8
  | .rbFull _ => 0#8
  | .prime => 0#8
  | .puts _ => 0#8
  | .write _ => 0#8
  | .getc => 0#8
  | .readable => 0#8
  | .sync => 0#8
  | .dtor => 0#8
  | .txisr => 0#8
  | .rxisr => 0#8

/-- The payload that carries a buffer operand (R70). -/
def Buffer.payload : Buffer → Payload
  | .null => .null
  | .bytes l => .bytes l

/-- The payload a command is presented with (R70). -/
def Instr.payload : Instr → Payload
  | .puts p => p.payload
  | .write p => p.payload
  | .rbPush _ _ => .none
  | .rbPop _ => .none
  | .rbEmpty _ => .none
  | .rbFull _ => .none
  | .prime => .none
  | .putc _ => .none
  | .getc => .none
  | .readable => .none
  | .sync => .none
  | .ctor _ => .none
  | .dtor => .none
  | .txisr => .none
  | .rxisr => .none

/-- The command word and payload of an operation (R71, R73, R77). -/
def encode (i : Instr) : Command where
  word := mkWord i.opcode i.sBit i.dByte
  payload := i.payload

/-! ## The opcode table -/

/-- The mnemonic of R73. -/
def Instr.mnemonic : Instr → String
  | .rbPush _ _ => "RB.PUSH"
  | .rbPop _ => "RB.POP"
  | .rbEmpty _ => "RB.EMPTY"
  | .rbFull _ => "RB.FULL"
  | .prime => "PRIME"
  | .putc _ => "PUTC"
  | .puts _ => "PUTS"
  | .write _ => "WRITE"
  | .getc => "GETC"
  | .readable => "READABLE"
  | .sync => "SYNC"
  | .ctor _ => "CTOR"
  | .dtor => "DTOR"
  | .txisr => "TXISR"
  | .rxisr => "RXISR"

/-- One row of spec/opcode_table.json. -/
structure OpcodeRow where
  mnemonic : String
  pattern : Word
  mask : Word
  format : Format
  issuedBy : IssuedBy
  deriving DecidableEq, Repr

/-- A word belongs to a row when its masked bits are the row's pattern. -/
def OpcodeRow.accepts (r : OpcodeRow) (w : Word) : Bool := w &&& r.mask == r.pattern

/-- The fifteen rows of spec/opcode_table.json, the machine-readable copy of R73. -/
def opcodeRows : List OpcodeRow := [
  ⟨"RB.PUSH", 0x1000#16, 0xF700#16, .rbd, .port⟩,
  ⟨"RB.POP", 0x2000#16, 0xF7FF#16, .rb, .port⟩,
  ⟨"RB.EMPTY", 0x3000#16, 0xF7FF#16, .rb, .port⟩,
  ⟨"RB.FULL", 0x4000#16, 0xF7FF#16, .rb, .port⟩,
  ⟨"PRIME", 0x5000#16, 0xFFFF#16, .n, .port⟩,
  ⟨"PUTC", 0x6000#16, 0xFF00#16, .d8, .port⟩,
  ⟨"PUTS", 0x7000#16, 0xFFFF#16, .p, .port⟩,
  ⟨"WRITE", 0x8000#16, 0xFFFF#16, .p, .port⟩,
  ⟨"GETC", 0x9000#16, 0xFFFF#16, .n, .port⟩,
  ⟨"READABLE", 0xA000#16, 0xFFFF#16, .n, .port⟩,
  ⟨"SYNC", 0xB000#16, 0xFFFF#16, .n, .port⟩,
  ⟨"CTOR", 0xC000#16, 0xFFFE#16, .b, .port⟩,
  ⟨"DTOR", 0xD000#16, 0xFFFF#16, .n, .port⟩,
  ⟨"TXISR", 0xE000#16, 0xFFFF#16, .n, .dispatch⟩,
  ⟨"RXISR", 0xF000#16, 0xFFFF#16, .n, .dispatch⟩]

end Sys2Proof
end

