-- ==== Sys2Proof/Machine/Environment.lean ====
section
/-! DEFINITION. The environment's steps (spec/60_exceptions.md R221, R223, R226), which write only the UART state, and the
choice of the next move (R214). -/

namespace Sys2Proof.Machine

/-- R221 TX_RISE, TX_FALL (a step only when `TX_READY_MAY_FALL`), R223 RX_DELIVER(b). -/
def Uart.envStep (mayFall : Bool) (u : Uart) : EnvStep → Uart
  | .txRise => { u with txReady := true }
  | .txFall => if mayFall then { u with txReady := false } else u
  | .rxDeliver b => { u with rxData := some b, rxReady := true, rxLog := u.rxLog ++ [b] }

/-- R226: an environment step, enabled in every state. -/
def State.envStep (s : State) (e : EnvStep) : State :=
  { s with u := s.u.envStep s.cfg.txReadyMayFall e }

/-- R214: who moves next is under no law. The schedule names it; past its end it is a free value (log 1). -/
def State.takeMove (s : State) : Move × State :=
  match s.sched with
  | m :: ms => (m, { s with sched := ms })
  | [] => (Config.freeMove s.freeTick, { s with freeTick := s.freeTick + 1 })

end Sys2Proof.Machine
end

