-- ==== Sys2Proof/Machine/Fetch.lean ====
section
/-! DEFINITION. What the foreground does next: the command it is BUSY with, or the host's next command (spec/30_encoding.md
R79); and the placing of a command where the next step takes it from (log 7, log 9). -/

namespace Sys2Proof.Machine

/-- The command the host presents: `prog[cpc]`, if `cpc < len(prog)` (R79). -/
def State.presented (s : State) : Option Command := s.prog[s.cpc]?

/-- What a foreground move does: run an instruction's next micro-step, raise ILLEGAL_CMD, or hold. -/
inductive FgMove where
  | run (i : Instr)
  | illegal
  | hold
  deriving DecidableEq, Repr

/-- R79, R216: the foreground's next micro-step. -/
def State.fgMove (s : State) : FgMove :=
  if s.fgMayStep then
    match s.fg with
    | .busy i _ _ => .run i
    | .idle =>
      match s.presented with
      | none => .hold
      | some c =>
        match decode s.cfg.lenMax c.word c.payload with
        | .ok i => .run i
        | .error _ => .illegal
  else .hold

/-- The host's list with command `c` at index `n`; commands the list lacks below `n` are filled with `c` itself. -/
def placeAt (prog : List Command) (n : Nat) (c : Command) : List Command :=
  prog.take n ++ List.replicate (n - prog.length) c ++ [c]

/-- Nothing keeps a foreground or interrupt step from being the next (R212, R213, R216), and the schedule names `m`. -/
def State.readyFor (s : State) (m : Move) : State :=
  { s with fault := 0#3, active := false, sched := m :: s.sched }

/-- A constructed port: an interrupt source is attached on no other (R121, R141). -/
def State.ensureConstructed (s : State) : State := if s.life then s else s.construct false

/-- The state in which the very next step runs the opcode-table word `w`: a port command stands at `prog[cpc]` with FG
IDLE; an entry code of R76 has its interrupt source on a constructed port requesting service (R211). -/
def State.withWord (s : State) (w : Word) : State :=
  match entryCode w with
  | some .txisr =>
    { s.ensureConstructed.readyFor .txi with txie := true, u := { s.u with txReady := true } }
  | some _ =>
    { s.ensureConstructed.readyFor .rxi with rxie := true, u := { s.u with rxReady := true, rxData := some 0#8 } }
  | none =>
    { s.readyFor .fg with fg := .idle, prog := placeAt s.prog s.cpc { word := w, payload := tablePayload w } }

end Sys2Proof.Machine
end

