-- ==== Sys2Proof/Machine/Step.lean ====
section
/-! DEFINITION. One transition of the block or its environment (spec/20_memory.md R56, R57): one agent moves, and the others
see all of its effects or none. -/

namespace Sys2Proof.Machine

/-- The step of agent FG (R79, R216). -/
def fgAgentStep (s : State) : Host.Outcome State Fault Refusal :=
  match s.fgMove with
  | .run i => exec i s
  | .illegal => .next (s.raise .illegalCmd)
  | .hold => .next s

/-- The step one move makes. -/
def moveStep (m : Move) (s : State) : Host.Outcome State Fault Refusal :=
  match m with
  | .fg => fgAgentStep s
  | .txi => exec .txisr s
  | .rxi => exec .rxisr s
  | .env e => .next (s.envStep e)

/-- One step: the next move (R214), made by its agent. -/
def step (s : State) : Host.Outcome State Fault Refusal :=
  moveStep s.takeMove.1 s.takeMove.2

/-- The state in which the very next step runs the opcode-table word `w` of `nbits` bits. Every BS2-RBA word has 16 bits
(R71), so `nbits` adds nothing: the bits above it are zeros of `w`. -/
def State.withFetchWord (s : State) (nbits w : Nat) : State :=
  s.withWord (BitVec.ofNat 16 (w % 2 ^ nbits))

end Sys2Proof.Machine
end

