-- ==== Sys2Proof/Machine/Assembler.lean ====
section
/-! DEFINITION. The assembler syntax and its pseudo-instructions (spec/30_encoding.md R80, R81), one command per line. What
R80 leaves open of the text (white space, where a comment starts, which characters a literal may hold) is log 17. -/

namespace Sys2Proof.Machine

/-- The tokens of one line. -/
inductive Tok where
  | word (cs : List Char)
  | char (c : Char)
  | str (cs : List Char)
  | comma
  | open_
  | close
  deriving DecidableEq, Repr

/-- An apostrophe, which delimits a character literal. -/
def isApostrophe (c : Char) : Bool := c.toNat == 39

/-- A double quote, which delimits a string literal. -/
def isQuote (c : Char) : Bool := c.toNat == 34

/-- White space inside a line (log 17). -/
def isBlank (c : Char) : Bool := c.toNat == 32 || c.toNat == 9

/-- Characters that end a word. -/
def endsWord (c : Char) : Bool :=
  isBlank c || isApostrophe c || isQuote c || c == ',' || c == '[' || c == ']' || c == ';'

/-- The tokens of a line; `fuel` bounds their number. A semicolon starts a comment. -/
def lexLine : Nat → List Char → Option (List Tok)
  | 0, _ => none
  | _ + 1, [] => some []
  | n + 1, c :: cs =>
    if isBlank c then lexLine n cs
    else if c == ';' then some []
    else if c == ',' then (lexLine n cs).map (.comma :: ·)
    else if c == '[' then (lexLine n cs).map (.open_ :: ·)
    else if c == ']' then (lexLine n cs).map (.close :: ·)
    else if isApostrophe c then
      match cs with
      | x :: q :: rest => if isApostrophe q then (lexLine n rest).map (.char x :: ·) else none
      | _ => none
    else if isQuote c then
      match cs.dropWhile (fun x => !isQuote x) with
      | _ :: rest => (lexLine n rest).map (.str (cs.takeWhile (fun x => !isQuote x)) :: ·)
      | [] => none
    else
      (lexLine n (cs.dropWhile fun x => !endsWord x)).map (.word (c :: cs.takeWhile fun x => !endsWord x) :: ·)

/-- The value of a digit, in bases up to 16. -/
def digitValue (c : Char) : Option Nat :=
  if '0' ≤ c ∧ c ≤ '9' then some (c.toNat - 48)
  else if 'a' ≤ c ∧ c ≤ 'f' then some (c.toNat - 87)
  else if 'A' ≤ c ∧ c ≤ 'F' then some (c.toNat - 55)
  else none

/-- A non-empty string of digits in a base, most significant first. -/
def numberInBase (base : Nat) : List Char → Option Nat
  | [] => none
  | cs => cs.foldl (fun acc c =>
      match acc, digitValue c with
      | some n, some d => if d < base then some (n * base + d) else none
      | _, _ => none) (some 0)

/-- R80: a number in decimal or `0x` hexadecimal. -/
def numberOf : List Char → Option Nat
  | '0' :: 'x' :: cs => numberInBase 16 cs
  | cs => numberInBase 10 cs

/-- R80: a character stands for its ASCII code (log 16). -/
def asciiOf (c : Char) : Option Byte :=
  if c.toNat < 128 then some (BitVec.ofNat 8 c.toNat) else none

/-- R80 `<imm8>`: a number from 0 to 255 or a character literal. -/
def imm8Of : Tok → Option Byte
  | .word cs =>
    match numberOf cs with
    | some n => if n < 256 then some (BitVec.ofNat 8 n) else none
    | none => none
  | .char c => asciiOf c
  | .str _ | .comma | .open_ | .close => none

/-- R80 `<inst>`. -/
def instOfTok (t : Tok) : Option Inst :=
  if t = .word "tx".toList then some .tx else if t = .word "rx".toList then some .rx else none

/-- The rest of a bracketed byte list, after its first element. -/
def byteListRest : List Tok → Option (List Byte)
  | [.close] => some []
  | .comma :: t :: rest => do
    let b ← imm8Of t
    let bs ← byteListRest rest
    some (b :: bs)
  | _ => none

/-- R80 `null | <bytes>`: a bracketed list, possibly empty, or a string literal. -/
def bufferOf : List Tok → Option Buffer
  | [.word cs] => if cs = "null".toList then some .null else none
  | [.str cs] => (cs.mapM asciiOf).map .bytes
  | [.open_, .close] => some (.bytes [])
  | .open_ :: t :: rest => do
    let b ← imm8Of t
    let bs ← byteListRest rest
    some (.bytes (b :: bs))
  | _ => none

/-- R80 and R81: the command a mnemonic and its operand tokens stand for. `POLL` is READABLE, and CTOR without an operand
is `bof=0`. -/
def commandOf (mnemonic : String) (ops : List Tok) : Option Instr :=
  match mnemonic, ops with
  | "RB.PUSH", [i, .comma, v] => do
    let r ← instOfTok i
    let d ← imm8Of v
    some (.rbPush r d)
  | "RB.POP", [i] => (instOfTok i).map .rbPop
  | "RB.EMPTY", [i] => (instOfTok i).map .rbEmpty
  | "RB.FULL", [i] => (instOfTok i).map .rbFull
  | "PRIME", [] => some .prime
  | "PUTC", [v] => (imm8Of v).map .putc
  | "PUTS", ts => (bufferOf ts).map .puts
  | "WRITE", ts => (bufferOf ts).map .write
  | "GETC", [] => some .getc
  | "READABLE", [] => some .readable
  | "POLL", [] => some .readable
  | "SYNC", [] => some .sync
  | "CTOR", [] => some (.ctor false)
  | "CTOR", [.word cs] =>
    if cs = "bof=0".toList then some (.ctor false)
    else if cs = "bof=1".toList then some (.ctor true)
    else none
  | "DTOR", [] => some .dtor
  | _, _ => none

/-- The instruction one line of assembler text stands for. -/
def parseLine (line : List Char) : Option Instr :=
  match lexLine (line.length + 1) line with
  | some (.word m :: ops) => commandOf (String.ofList m) ops
  | _ => none

/-- The command word and payload one line of assembler text stands for. -/
def assemble (line : String) : Option Command := (parseLine line.toList).map encode

end Sys2Proof.Machine
end

