-- ==== Sys2Proof/Machine/Registers.lean ====
section
/-! DEFINITION. The register reference table (spec/10_state.md R33): the reference numbers 0 to 11 that traces and claims
use, with each register's value, width and legal values. No command reads or writes a register by number. -/

namespace Sys2Proof.Machine

/-- The registers of R33, in the order of their reference numbers. -/
inductive Reg where
  | life
  | cfgBof
  | txie
  | rxie
  | active
  | fault
  | txRd
  | txWr
  | txCount
  | rxRd
  | rxWr
  | rxCount
  deriving DecidableEq, Repr

/-- R33, column "no.". -/
def Reg.number : Reg → Nat
  | .life => 0
  | .cfgBof => 1
  | .txie => 2
  | .rxie => 3
  | .active => 4
  | .fault => 5
  | .txRd => 6
  | .txWr => 7
  | .txCount => 8
  | .rxRd => 9
  | .rxWr => 10
  | .rxCount => 11

/-- The value of a register as a number; `none` is "no value" (R35). -/
def State.regValue (s : State) : Reg → Option Nat
  | .life => some s.life.toNat
  | .cfgBof => s.cfgBof.map Bool.toNat
  | .txie => some s.txie.toNat
  | .rxie => some s.rxie.toNat
  | .active => some s.active.toNat
  | .fault => some s.fault.toNat
  | .txRd => s.tx.map Ring.rd
  | .txWr => s.tx.map Ring.wr
  | .txCount => s.tx.map Ring.count
  | .rxRd => s.rx.map Ring.rd
  | .rxWr => s.rx.map Ring.wr
  | .rxCount => s.rx.map Ring.count

/-- R33, column "bits": how many bits a register has. -/
def Reg.bits (cfg : Config) : Reg → Nat
  | .life => 1
  | .cfgBof => 1
  | .txie => 1
  | .rxie => 1
  | .active => 1
  | .fault => 3
  | .txRd => max 1 (Nat.clog 2 cfg.cTx)
  | .txWr => max 1 (Nat.clog 2 cfg.cTx)
  | .txCount => Nat.clog 2 (cfg.cTx + 1)
  | .rxRd => max 1 (Nat.clog 2 cfg.cRx)
  | .rxWr => max 1 (Nat.clog 2 cfg.cRx)
  | .rxCount => Nat.clog 2 (cfg.cRx + 1)

/-- R33, column "legal values": the largest legal value, all smaller ones being legal too. -/
def Reg.maxLegal (cfg : Config) : Reg → Nat
  | .life => 1
  | .cfgBof => 1
  | .txie => 1
  | .rxie => 1
  | .active => 1
  | .fault => 5
  | .txRd => cfg.cTx - 1
  | .txWr => cfg.cTx - 1
  | .txCount => cfg.cTx
  | .rxRd => cfg.cRx - 1
  | .rxWr => cfg.cRx - 1
  | .rxCount => cfg.cRx

end Sys2Proof.Machine
end

