-- ==== Sys2Proof/Safety.lean ====
section
/-! DEFINITION. The terms claims are stated in: what an instance holds (R22, R106), the labels of a command (R30), the invariant
of a legal state, quiescence (R233), and runs of one agent or of the whole block. -/

namespace Sys2Proof.Machine

/-! ## Ring buffers -/

/-- The invariants of R22 for an instance of capacity `c`, with the canonical form of its storage. -/
structure Ring.Legal {w : Nat} (c : Nat) (rb : Ring w) : Prop where
  canonical : rb.store.wf
  inside : ∀ x ∈ rb.store, x.1 < c
  count_le : rb.count ≤ c
  rd_lt : rb.rd < c
  wr_lt : rb.wr < c
  wr_eq : rb.wr = (rb.rd + rb.count) % c
  written : ∀ k, k < rb.count → (rb.store.read ((rb.rd + k) % c)).isSome

/-- The unread elements of an instance are `l`, oldest first (R22 item 4; written `tx = [b_1, ..., b_k]` in R106). -/
def Ring.Holds {w : Nat} (c : Nat) (rb : Ring w) (l : List (BitVec w)) : Prop :=
  rb.count = l.length ∧ ∀ k v, l[k]? = some v → rb.store.read ((rb.rd + k) % c) = some v

/-- What a push leaves of the unread elements (R100): the oldest is discarded when the instance is full. -/
def pushQueue {α : Type} (c : Nat) (l : List α) (v : α) : List α :=
  (if l.length = c then l.tail else l) ++ [v]

/-- Pushes in order, with no pop in between (R106). -/
def Ring.pushAll {w : Nat} (c : Nat) : Ring w → List (BitVec w) → Except Stop (Ring w)
  | rb, [] => .ok rb
  | rb, v :: vs => do
    let rb' ← rb.push c v
    Ring.pushAll c rb' vs

/-- `n` pops in a row, with what each returned (R106). -/
def Ring.popMany {w : Nat} (c : Nat) : Nat → Ring w → Except Stop (List (Option (BitVec w)) × Ring w)
  | 0, rb => .ok ([], rb)
  | n + 1, rb => do
    let x ← rb.pop c
    let y ← Ring.popMany c n x.2
    .ok (x.1 :: y.1, y.2)

/-- The last `n` elements of a list. -/
def lastOf {α : Type} (n : Nat) (l : List α) : List α := l.drop (l.length - n)

end Sys2Proof.Machine

namespace Sys2Proof

/-! ## Commands -/

/-- The bytes a command enqueues (R151 to R153); none for the no-op forms (R157) and the other commands. -/
def Instr.sends (cfg : Config) : Instr → List Byte
  | .putc d => [d]
  | .puts .null => []
  | .puts (.bytes l) => Machine.putsBytes cfg.term l
  | .write .null => []
  | .write (.bytes l) => l
  | .rbPush _ _ | .rbPop _ | .rbEmpty _ | .rbFull _ | .prime | .getc | .readable | .sync | .ctor _ | .dtor
  | .txisr | .rxisr => []

/-- The result a write-family command returns (R78, R151 to R153). -/
def Instr.writeFamilyResult : Instr → Machine.Result
  | .putc _ => .none
  | .puts .null => .count 0
  | .puts (.bytes l) => Machine.putsResult l
  | .write .null => .count 0
  | .write (.bytes l) => .count l.length
  | .rbPush _ _ | .rbPop _ | .rbEmpty _ | .rbFull _ | .prime | .getc | .readable | .sync | .ctor _ | .dtor
  | .txisr | .rxisr => .none

/-- PUTC, PUTS and WRITE (R150). -/
def Instr.isWriteFamily : Instr → Bool
  | .putc _ | .puts _ | .write _ => true
  | .rbPush _ _ | .rbPop _ | .rbEmpty _ | .rbFull _ | .prime | .getc | .readable | .sync | .ctor _ | .dtor
  | .txisr | .rxisr => false

/-- The label PRIME's sequence goes on at (R122): `K1` in the PRIME command, `W9` in a write-family command. -/
def Instr.continuation : Instr → Machine.Label
  | .prime => .k1
  | .rbPush _ _ | .rbPop _ | .rbEmpty _ | .rbFull _ | .putc _ | .puts _ | .write _ | .getc | .readable | .sync
  | .ctor _ | .dtor | .txisr | .rxisr => .w9

/-- The encodings R75 lists as illegal. -/
def IllegalEncoding (lenMax : Nat) (w : Word) (p : Payload) : Prop :=
  opField w = 0x0#4 ∨ opField w = 0xE#4 ∨ opField w = 0xF#4 ∨ zField w ≠ 0#3 ∨
  (sField w = true ∧ opField w ∉ [0x1#4, 0x2#4, 0x3#4, 0x4#4]) ∨
  (dField w ≠ 0#8 ∧
    opField w ∈ [0x2#4, 0x3#4, 0x4#4, 0x5#4, 0x7#4, 0x8#4, 0x9#4, 0xA#4, 0xB#4, 0xD#4]) ∨
  (opField w = 0xC#4 ∧ (dField w).extractLsb' 1 7 ≠ 0#7) ∨
  (opField w ∈ [0x7#4, 0x8#4] ∧ p = .none) ∨
  (opField w ∉ [0x7#4, 0x8#4] ∧ p ≠ .none) ∨
  ∃ l, p = .bytes l ∧ lenMax < l.length

/-- The labels a command's rule has (R30): `L0` for every port command, the PRIME labels with continuation `K1` or `W9`,
the enqueue labels when the command enqueues a byte, `S1` for SYNC. -/
def Instr.hasLabel (cfg : Config) (i : Instr) : Machine.Label → Bool
  | .l0 => i.issuedBy == .port
  | .w1 | .w9 => i.isWriteFamily && !(i.sends cfg).isEmpty
  | .p0 | .p1 | .p2 | .p3 => i == .prime || (i.isWriteFamily && !(i.sends cfg).isEmpty)
  | .k1 => i == .prime
  | .s1 => i == .sync

end Sys2Proof

namespace Sys2Proof.Machine

/-! ## Legal states -/

/-- What `fg.state` may be in a legal state: a well-formed port command at one of its labels, past `L0` only on a constructed
port (R205), at `P2` and `P3` only with TXIE = 0 and ACTIVE = 0 (R124), at `W1` with the cursor inside the payload
(R150). -/
def State.FgLegal (s : State) : Prop :=
  match s.fg with
  | .idle => True
  | .busy i l n =>
    i.wf s.cfg.lenMax = true ∧ i.issuedBy = .port ∧ i.hasLabel s.cfg l = true ∧
    (l ≠ .l0 → s.life = true) ∧
    (l = .p2 ∨ l = .p3 → s.txie = false ∧ s.active = false) ∧
    (l = .w1 → n < (i.sends s.cfg).length)

/-- A result is within R83's bound. -/
def Result.bounded (lenMax : Nat) : Result → Bool
  | .count n => decide (n ≤ lenMax + 1)
  | .none | .bool _ | .byte _ | .opt _ => true

/-- The invariant of BS2-RBA: R22 for both instances, "no value" exactly while UNCONSTRUCTED (R27, R240), the enables only
on a constructed port (R26, R212), ACTIVE only with TXIE = 1 (R126), FAULT one of the codes of R201, a legal
`fg.state`, and every COUNT within R83's bound. -/
structure State.Inv (s : State) : Prop where
  txLegal : ∀ rb, s.tx = some rb → rb.Legal s.cfg.cTx
  rxLegal : ∀ rb, s.rx = some rb → rb.Legal s.cfg.cRx
  txLife : s.tx.isSome = s.life
  rxLife : s.rx.isSome = s.life
  bofLife : s.cfgBof.isSome = s.life
  txieLife : s.txie = true → s.life = true
  rxieLife : s.rxie = s.life
  activeTxie : s.active = true → s.txie = true
  faultCode : s.fault.toNat ≤ 5
  fgLegal : s.FgLegal
  counts : ∀ r ∈ s.results, r.bounded s.cfg.lenMax = true

/-- A ready received byte has a value, and INTERNAL is not recorded (R206, R224; log 14). -/
def State.UartSound (s : State) : Prop := (s.u.rxReady = true → s.u.rxData.isSome) ∧ s.fault ≠ FaultCode.internal.bits

/-- Two states with the same block: everything is equal but the UART state and the model's own inputs (R200, R226). -/
def State.SameBlock (s t : State) : Prop :=
  t = { s with u := t.u, sched := t.sched, draws := t.draws, freeTick := t.freeTick }

/-- FG is about to run the micro-step at label `l` of command `i`, with payload cursor `n` (R216). -/
def State.At (s : State) (i : Instr) (l : Label) (n : Nat) : Prop := s.fgMayStep = true ∧ s.fg = .busy i l n

/-- What slot `a` of an instance holds: the model's read of one byte of memory. -/
def State.slot (s : State) (r : Inst) (a : Nat) : Option Byte :=
  match s.instance? r with
  | some rb => rb.store.read a
  | none => none

/-- The slot the next push into an instance stores to (R100: `MemWrite(rb, rb.wr, v)`). -/
def State.storeSlot (s : State) (r : Inst) : Option Nat := (s.instance? r).map Ring.wr

/-- R233: quiescent. -/
def State.quiescent (s : State) : Bool :=
  s.fg == .idle && s.cpc == s.prog.length && !s.active && s.noFault && !s.txEntryEnabled && !s.rxServiceEnabled

/-! ## Runs -/

/-- `n` micro-steps in a row of one instruction, with no other agent's step between them. -/
def runInstr (i : Instr) : Nat → State → Host.Outcome State Fault Refusal
  | 0, s => .next s
  | n + 1, s =>
    match exec i s with
    | .next s' => runInstr i n s'
    | .fault f => .fault f
    | .refused r => .refused r

/-- The states a run of the block can reach from `s`, whatever the schedule and the draws (R57). -/
inductive Reaches (s : State) : State → Prop
  | here : Reaches s s
  | next {t t' : State} : Reaches s t → step t = .next t' → Reaches s t'

end Sys2Proof.Machine
end

