-- ==== Sys2Proof/Certificates/Slice0/Obligations.lean ====
section
/-! DEFINITION. The statements about BS2-RBA that the provers settle. Each docstring names the rule of spec/ it formalises. -/

open Sys2Proof Sys2Proof.Machine

/-! ## Encoding -/

/-- R71, R73, R74, R77, R83: decoding what the encoder wrote gives the command back, with every operand at every value. -/
def Obligations.PortDecodeReadsEncoding : Prop :=
  ∀ (lenMax : Nat) (i : Instr), i.wf lenMax = true → i.issuedBy = .port →
    decode lenMax (encode i).word (encode i).payload = .ok i

/-- R73 to R75: a pair that decodes is the encoding of the command it decodes to, which is a well-formed port command. -/
def Obligations.DecodedCommandIsItsEncoding : Prop :=
  ∀ (lenMax : Nat) (w : Word) (p : Payload) (i : Instr), decode lenMax w p = .ok i →
    encode i = { word := w, payload := p } ∧ i.wf lenMax = true ∧ i.issuedBy = .port

/-- R75, R202: exactly the listed encodings are illegal; starting one raises ILLEGAL_CMD and changes nothing else. The two
entry codes are illegal on the port with any payload. -/
def Obligations.IllegalCommandsAreRefused : Prop :=
  (∀ (lenMax : Nat) (w : Word) (p : Payload),
    (∃ e, decode lenMax w p = .error e) ↔ IllegalEncoding lenMax w p) ∧
  (∀ (lenMax : Nat) (p : Payload),
    (∃ e, decode lenMax 0xE000#16 p = .error e) ∧ ∃ e, decode lenMax 0xF000#16 p = .error e) ∧
  ∀ (s : State) (c : Command) (e : Illegal), s.fgMayStep = true → s.fg = .idle → s.presented = some c →
    decode s.cfg.lenMax c.word c.payload = .error e →
    fgAgentStep s = .next { s with fault := FaultCode.illegalCmd.bits }

/-- R73 and spec/opcode_table.json: every operation's word is accepted by a row with its mnemonic, format and issuer; no
word is accepted by two rows; and a word is read as an instruction exactly when some row accepts it. The last
clause gives PUTS and WRITE the null payload (log 8). -/
def Obligations.OpcodeTableAgreesWithDecoder : Prop :=
  (∀ i : Instr, ∃ r ∈ opcodeRows, r.accepts (encode i).word = true ∧ r.mnemonic = i.mnemonic ∧
    r.format = i.format ∧ r.issuedBy = i.issuedBy) ∧
  opcodeRows.Pairwise (fun r q => ∀ w, ¬ (r.accepts w = true ∧ q.accepts w = true)) ∧
  ∀ (lenMax : Nat) (w : Word),
    (∃ r ∈ opcodeRows, r.accepts w = true) ↔ ∃ i, decodeRow lenMax w (tablePayload w) = some i

/-- Words written out from the formats of R71 and the codes of R73. -/
def Obligations.SampleWordsDecode : Prop :=
  decode 100 0b0001000001000001#16 .none = .ok (.rbPush .tx 0x41#8) ∧
  decode 100 0b0010100000000000#16 .none = .ok (.rbPop .rx) ∧
  decode 100 0b0101000000000000#16 .none = .ok .prime ∧
  decode 100 0b0110000011111111#16 .none = .ok (.putc 0xFF#8) ∧
  decode 100 0b0111000000000000#16 (.bytes [0x41#8]) = .ok (.puts (.bytes [0x41#8])) ∧
  decode 100 0b1001000000000000#16 .none = .ok .getc ∧
  decode 100 0b1100000000000001#16 .none = .ok (.ctor true) ∧
  decodeRow 100 0b1110000000000000#16 .none = some .txisr ∧
  decodeRow 100 0b1111000000000000#16 .none = some .rxisr

/-- R54: a command word carried over an 8-bit path goes bits 7:0 first, and decodes as it would whole. -/
def Obligations.WordTravelsLowByteFirst : Prop :=
  ∀ (lenMax : Nat) (w : Word) (p : Payload),
    bytesOfWord w = [w.extractLsb' 0 8, w.extractLsb' 8 8] ∧
    decodeBytes lenMax (bytesOfWord w) p = decode lenMax w p

/-- R81: POLL is READABLE, CTOR without operand is `bof=0`, and the string forms of PUTS and WRITE carry the string's
bytes. -/
def Obligations.PseudoInstructionsExpand : Prop :=
  assemble "POLL" = some { word := 0xA000#16, payload := .none } ∧
  assemble "CTOR" = some { word := 0xC000#16, payload := .none } ∧
  ∀ (cs : List Char) (bs : List Byte), cs.mapM asciiOf = some bs →
    commandOf "PUTS" [.str cs] = some (.puts (.bytes bs)) ∧
    commandOf "WRITE" [.str cs] = some (.write (.bytes bs))

/-! ## Ring buffers of any width and capacity -/

/-- R100: the push primitive, in both branches; on a legal instance it always answers, and when the instance is full the
slot it writes is the one of the element it discards. -/
def Obligations.PushOverwritesOldest : Prop :=
  ∀ (w c : Nat) (rb : Ring w) (v : BitVec w),
    (rb.wr < c → rb.count = c →
      rb.push c v = .ok { store := rb.store.write rb.wr v, rd := (rb.rd + 1) % c, wr := (rb.wr + 1) % c,
                          count := rb.count }) ∧
    (rb.wr < c → rb.count ≠ c →
      rb.push c v = .ok { store := rb.store.write rb.wr v, rd := rb.rd, wr := (rb.wr + 1) % c,
                          count := rb.count + 1 }) ∧
    (rb.Legal c → (∃ rb', rb.push c v = .ok rb') ∧ (rb.count = c → rb.wr = rb.rd))

/-- R101: the pop primitive. -/
def Obligations.PopTakesOldest : Prop :=
  ∀ (w c : Nat) (rb : Ring w),
    (rb.count = 0 → rb.pop c = .ok (none, rb)) ∧
    ∀ v, rb.count ≠ 0 → rb.rd < c → rb.store.read rb.rd = some v →
      rb.pop c = .ok (some v, { rb with rd := (rb.rd + 1) % c, count := rb.count - 1 })

/-- R105: with a capacity of at least 1, full and empty are never both true. -/
def Obligations.NeverFullAndEmpty : Prop :=
  ∀ (w c : Nat) (rb : Ring w), 1 ≤ c → ¬ (rb.isFull c = true ∧ rb.isEmpty = true)

/-- R106: pushing a list into an empty instance and popping gives its last `min(m, C)` elements oldest first, and then
nothing; and however pushes and pops interleave, a pop takes the oldest element neither popped nor overwritten.
The invariants of R22 hold throughout. -/
def Obligations.LastPushesArePoppedInOrder : Prop :=
  (∀ (w c : Nat) (rb : Ring w) (vs : List (BitVec w)), rb.Legal c → rb.count = 0 →
    ∃ rb₁ rb₂, rb.pushAll c vs = .ok rb₁ ∧ rb₁.Holds c (lastOf (min vs.length c) vs) ∧
      Ring.popMany c (min vs.length c) rb₁ = .ok ((lastOf (min vs.length c) vs).map some, rb₂) ∧
      rb₂.pop c = .ok (none, rb₂)) ∧
  ∀ (w c : Nat) (rb : Ring w) (l : List (BitVec w)), rb.Legal c → rb.Holds c l →
    (∀ v, ∃ rb', rb.push c v = .ok rb' ∧ rb'.Legal c ∧ rb'.Holds c (pushQueue c l v)) ∧
    (l = [] → rb.pop c = .ok (none, rb)) ∧
    ∀ a l', l = a :: l' → ∃ rb', rb.pop c = .ok (some a, rb') ∧ rb'.Legal c ∧ rb'.Holds c l'

/-! ## Reset and invariants -/

/-- R240 and R35: the power-on state. -/
def Obligations.PowerOnState : Prop :=
  State.reset.life = false ∧ State.reset.txie = false ∧ State.reset.rxie = false ∧
  State.reset.active = false ∧ State.reset.fault = 0#3 ∧ State.reset.cpc = 0 ∧ State.reset.fg = .idle ∧
  State.reset.results = [] ∧ State.reset.cfgBof = none ∧ State.reset.tx = none ∧ State.reset.rx = none ∧
  State.reset.u.rxData = none ∧ State.reset.u.txWire = [] ∧ State.reset.u.rxLog = [] ∧
  State.reset.txEntryEnabled = false ∧ State.reset.rxServiceEnabled = false

/-- The power-on state satisfies the invariant. -/
def Obligations.PowerOnStateIsLegal : Prop := State.reset.Inv

/-- R22 and the derived facts of R126, R212 and R124: every step keeps the invariant. -/
def Obligations.StepKeepsInvariant : Prop :=
  ∀ s t : State, s.Inv → step s = .next t → t.Inv

/-- From every legal state the block goes on: no step ends in a fault of the model or a refusal (log 11). -/
def Obligations.LegalStatesAlwaysStep : Prop :=
  ∀ s : State, s.Inv → ∃ t, step s = .next t

/-- R206, R225: INTERNAL is never recorded, in states where a ready byte has a value. The premise is the model's: the
power-on draw of R35 can break it (log 14). -/
def Obligations.InternalFaultIsUnreached : Prop :=
  ∀ s t : State, s.Inv → s.UartSound → step s = .next t → t.UartSound

/-- Log 14 (a choice the model makes between R35 and R206): when the power-on draw made `u.rx_ready` true with no byte
delivered, the first receive service records INTERNAL. -/
def Obligations.ReadyWithoutByteRecordsInternal : Prop :=
  ∀ s : State, s.rxServiceEnabled = true → s.u.rxData = none →
    exec .rxisr s = .next { s with fault := FaultCode.internal.bits }

/-- R33: in a legal state every register that holds a value holds a legal one, which fits its width. -/
def Obligations.RegistersHoldLegalValues : Prop :=
  ∀ (s : State) (r : Reg) (v : Nat), s.Inv → s.regValue r = some v →
    v ≤ r.maxLegal s.cfg ∧ v < 2 ^ r.bits s.cfg

/-! ## The step and the foreground's commands -/

/-- R79, R214, R216: the step FG is scheduled for runs the outstanding command, or the command that the word presented
decodes to, whole or as its two bytes; every other move runs its own agent; past the schedule's end the move is a
free value (log 1). -/
def Obligations.StepRunsScheduledMove : Prop :=
  ∀ (s : State) (rest : List Move),
    (s.sched = .fg :: rest → s.fgMayStep = true →
      (∀ i l n, s.fg = .busy i l n → step s = exec i { s with sched := rest }) ∧
      (∀ c i, s.fg = .idle → s.presented = some c → decode s.cfg.lenMax c.word c.payload = .ok i →
        step s = exec i { s with sched := rest }) ∧
      ∀ c i, s.fg = .idle → s.presented = some c →
        decodeBytes s.cfg.lenMax (bytesOfWord c.word) c.payload = .ok i →
        step s = exec i { s with sched := rest }) ∧
    (s.sched = .txi :: rest → step s = exec .txisr { s with sched := rest }) ∧
    (s.sched = .rxi :: rest → step s = exec .rxisr { s with sched := rest }) ∧
    (∀ e, s.sched = .env e :: rest → step s = .next { s with sched := rest, u := s.u.envStep s.cfg.txReadyMayFall e }) ∧
    (s.sched = [] → step s = moveStep (Config.freeMove s.freeTick) { s with freeTick := s.freeTick + 1 })

/-- R79: FG starts `prog[cpc]` exactly when it is IDLE, ACTIVE = 0, FAULT = 0 and `cpc < len(prog)`; the start
decodes, and either raises ILLEGAL_CMD or makes the command BUSY at L0 with cursor 0. Nothing else changes. -/
def Obligations.StartStep : Prop :=
  ∀ s : State, s.fg = .idle →
    ((s.active = true ∨ s.fault ≠ 0#3 ∨ s.prog.length ≤ s.cpc) → fgAgentStep s = .next s) ∧
    ∀ c, s.active = false → s.fault = 0#3 → s.prog[s.cpc]? = some c →
      (∀ e, decode s.cfg.lenMax c.word c.payload = .error e →
        fgAgentStep s = .next { s with fault := FaultCode.illegalCmd.bits }) ∧
      ∀ i, decode s.cfg.lenMax c.word c.payload = .ok i → fgAgentStep s = .next { s with fg := .busy i .l0 0 }

/-- R200: a raised fault is the only change of its step and the first one stays; while FAULT is not 0 every step
leaves the block as it is, environment steps go on, and the state is not quiescent. -/
def Obligations.FaultIsPreciseAndHalts : Prop :=
  (∀ (s : State) (c : FaultCode), s.fault = 0#3 →
    s.settle (.error (.raise c)) = .next { s with fault := c.bits }) ∧
  (∀ (s : State) (c : FaultCode), s.fault ≠ 0#3 → s.settle (.error (.raise c)) = .next s) ∧
  (∀ s : State, s.fault ≠ 0#3 → ∃ t, step s = .next t ∧ s.SameBlock t) ∧
  (∀ (s : State) (m : Move), s.fault ≠ 0#3 → m.agent ≠ .env → moveStep m s = .next s) ∧
  (∀ (s : State) (e : EnvStep),
    moveStep (.env e) s = .next { s with u := s.u.envStep s.cfg.txReadyMayFall e }) ∧
  ∀ s : State, s.fault ≠ 0#3 → s.quiescent = false

/-- R205: every port command but CTOR raises LIFECYCLE at L0 while LIFE = 0, whatever its operands, and CTOR while
LIFE = 1. -/
def Obligations.LifecycleFault : Prop :=
  ∀ (s : State) (i : Instr) (n : Nat), s.At i .l0 n → i.issuedBy = .port →
    ((∀ b, i ≠ .ctor b) → s.life = false → exec i s = .next { s with fault := FaultCode.lifecycle.bits }) ∧
    ∀ b, i = .ctor b → s.life = true → exec i s = .next { s with fault := FaultCode.lifecycle.bits }

/-- R107 RB.PUSH: its words; on `tx` the byte is pushed and the result is NONE, with TXIE untouched; on `rx`
ROLE_VIOLATION; LIFECYCLE while unconstructed. -/
def Obligations.RbPushStoresByte : Prop :=
  (∀ (lenMax : Nat) (d : Byte), decode lenMax (0x10#8 ++ d) .none = .ok (.rbPush .tx d) ∧
    decode lenMax (0x18#8 ++ d) .none = .ok (.rbPush .rx d)) ∧
  ∀ (s : State) (d : Byte) (n : Nat),
    (∀ r, s.At (.rbPush r d) .l0 n → s.life = false →
      exec (.rbPush r d) s = .next { s with fault := FaultCode.lifecycle.bits }) ∧
    (s.At (.rbPush .rx d) .l0 n → s.life = true →
      exec (.rbPush .rx d) s = .next { s with fault := FaultCode.roleViolation.bits }) ∧
    ∀ rb, s.At (.rbPush .tx d) .l0 n → s.life = true → s.tx = some rb → rb.wr < s.cfg.cTx →
      ∃ rb', rb.push s.cfg.cTx d = .ok rb' ∧
        exec (.rbPush .tx d) s =
          .next { s with tx := some rb', results := s.results ++ [.none], fg := .idle, cpc := s.cpc + 1 }

/-- R108 RB.POP: its words; on `rx` the result is OPT of what the pop took, an empty `rx` being no fault; on `tx`
ROLE_VIOLATION. -/
def Obligations.RbPopTakesByte : Prop :=
  (∀ lenMax : Nat, decode lenMax 0x2000#16 .none = .ok (.rbPop .tx) ∧
    decode lenMax 0x2800#16 .none = .ok (.rbPop .rx)) ∧
  ∀ (s : State) (n : Nat),
    (∀ r, s.At (.rbPop r) .l0 n → s.life = false →
      exec (.rbPop r) s = .next { s with fault := FaultCode.lifecycle.bits }) ∧
    (s.At (.rbPop .tx) .l0 n → s.life = true →
      exec (.rbPop .tx) s = .next { s with fault := FaultCode.roleViolation.bits }) ∧
    (∀ rb, s.At (.rbPop .rx) .l0 n → s.life = true → s.rx = some rb → rb.count = 0 →
      exec (.rbPop .rx) s =
        .next { s with results := s.results ++ [.opt none], fg := .idle, cpc := s.cpc + 1 }) ∧
    ∀ rb v, s.At (.rbPop .rx) .l0 n → s.life = true → s.rx = some rb → rb.count ≠ 0 → rb.rd < s.cfg.cRx →
      rb.store.read rb.rd = some v →
      exec (.rbPop .rx) s =
        .next { s with rx := some { rb with rd := (rb.rd + 1) % s.cfg.cRx, count := rb.count - 1 },
                       results := s.results ++ [.opt (some v)], fg := .idle, cpc := s.cpc + 1 }

/-- R109, R110, R155: the queries' words; they answer `count = 0`, `count = C` and `not empty` for this instant and
change nothing but the completion; LIFECYCLE while unconstructed. -/
def Obligations.QueriesAnswer : Prop :=
  (∀ lenMax : Nat,
    decode lenMax 0x3000#16 .none = .ok (.rbEmpty .tx) ∧ decode lenMax 0x3800#16 .none = .ok (.rbEmpty .rx) ∧
    decode lenMax 0x4000#16 .none = .ok (.rbFull .tx) ∧ decode lenMax 0x4800#16 .none = .ok (.rbFull .rx) ∧
    decode lenMax 0xA000#16 .none = .ok .readable) ∧
  ∀ (s : State) (r : Inst) (rb : Ring 8) (n : Nat),
    (s.life = false →
      (s.At (.rbEmpty r) .l0 n → exec (.rbEmpty r) s = .next { s with fault := FaultCode.lifecycle.bits }) ∧
      (s.At (.rbFull r) .l0 n → exec (.rbFull r) s = .next { s with fault := FaultCode.lifecycle.bits }) ∧
      (s.At .readable .l0 n → exec .readable s = .next { s with fault := FaultCode.lifecycle.bits })) ∧
    (s.life = true → s.instance? r = some rb → s.At (.rbEmpty r) .l0 n →
      exec (.rbEmpty r) s =
        .next { s with results := s.results ++ [.bool (decide (rb.count = 0))], fg := .idle, cpc := s.cpc + 1 }) ∧
    (s.life = true → s.instance? r = some rb → s.At (.rbFull r) .l0 n →
      exec (.rbFull r) s =
        .next { s with results := s.results ++ [.bool (decide (rb.count = s.capacity r))], fg := .idle,
                       cpc := s.cpc + 1 }) ∧
    (s.life = true → s.rx = some rb → s.At .readable .l0 n →
      exec .readable s =
        .next { s with results := s.results ++ [.bool (decide (rb.count ≠ 0))], fg := .idle, cpc := s.cpc + 1 })

/-- R154, R204 GETC: its word; the oldest byte of `rx` is the result; an empty `rx` raises EMPTY_READ and logs nothing. -/
def Obligations.GetcTakesByte : Prop :=
  (∀ lenMax : Nat, decode lenMax 0x9000#16 .none = .ok .getc) ∧
  ∀ (s : State) (n : Nat), s.At .getc .l0 n →
    (s.life = false → exec .getc s = .next { s with fault := FaultCode.lifecycle.bits }) ∧
    (∀ rb, s.life = true → s.rx = some rb → rb.count = 0 →
      exec .getc s = .next { s with fault := FaultCode.emptyRead.bits }) ∧
    ∀ rb v, s.life = true → s.rx = some rb → rb.count ≠ 0 → rb.rd < s.cfg.cRx → rb.store.read rb.rd = some v →
      exec .getc s =
        .next { s with rx := some { rb with rd := (rb.rd + 1) % s.cfg.cRx, count := rb.count - 1 },
                       results := s.results ++ [.byte v], fg := .idle, cpc := s.cpc + 1 }

/-- R241 CTOR: its words; both instances empty with every slot `none`, CFG.BOF the operand, TXIE 0, RXIE 1, LIFE 1,
result NONE; LIFECYCLE when already constructed. The UART state is not touched. -/
def Obligations.CtorConstructs : Prop :=
  (∀ lenMax : Nat, decode lenMax 0xC000#16 .none = .ok (.ctor false) ∧
    decode lenMax 0xC001#16 .none = .ok (.ctor true)) ∧
  ∀ (s : State) (b : Bool) (n : Nat), s.At (.ctor b) .l0 n →
    (s.life = true → exec (.ctor b) s = .next { s with fault := FaultCode.lifecycle.bits }) ∧
    (s.life = false → ∃ t,
      exec (.ctor b) s = .next t ∧
      t = { s with tx := some { store := [], rd := 0, wr := 0, count := 0 },
                   rx := some { store := [], rd := 0, wr := 0, count := 0 },
                   cfgBof := some b, txie := false, rxie := true, life := true,
                   results := s.results ++ [.none], fg := .idle, cpc := s.cpc + 1 } ∧
      ∀ r a, t.slot r a = none)

/-- R242, R246, R243 DTOR: its word; both handlers detached in the step that releases the storage, no value left, LIFE
0, result NONE; no service is enabled afterwards, and a CTOR that follows constructs again. LIFECYCLE when
unconstructed. -/
def Obligations.DtorTearsDown : Prop :=
  (∀ lenMax : Nat, decode lenMax 0xD000#16 .none = .ok .dtor) ∧
  ∀ (s : State) (n : Nat), s.At .dtor .l0 n →
    (s.life = false → exec .dtor s = .next { s with fault := FaultCode.lifecycle.bits }) ∧
    (s.life = true → ∃ t,
      exec .dtor s = .next t ∧
      t = { s with tx := none, rx := none, cfgBof := none, txie := false, rxie := false, life := false,
                   results := s.results ++ [.none], fg := .idle, cpc := s.cpc + 1 } ∧
      t.txEntryEnabled = false ∧ t.rxServiceEnabled = false ∧
      ∀ b, ∃ t', runInstr (.ctor b) 2 t = .next t' ∧ t'.life = true ∧ t'.rxie = true ∧ t'.txie = false ∧
        t'.tx = some Ring.constructed ∧ t'.rx = some Ring.constructed ∧ t'.cfgBof = some b)

/-- R156 SYNC: its word; L0 checks LIFE and goes to S1; S1 holds while `tx` is not empty and completes with NONE when
it is. -/
def Obligations.SyncWaitsForEmpty : Prop :=
  (∀ lenMax : Nat, decode lenMax 0xB000#16 .none = .ok .sync) ∧
  ∀ (s : State) (n : Nat),
    (s.At .sync .l0 n → s.life = false → exec .sync s = .next { s with fault := FaultCode.lifecycle.bits }) ∧
    (s.At .sync .l0 n → s.life = true → exec .sync s = .next { s with fg := .busy .sync .s1 n }) ∧
    (∀ rb, s.At .sync .s1 n → s.tx = some rb → rb.count ≠ 0 → exec .sync s = .next s) ∧
    ∀ rb, s.At .sync .s1 n → s.tx = some rb → rb.count = 0 →
      exec .sync s = .next { s with results := s.results ++ [.none], fg := .idle, cpc := s.cpc + 1 }

/-- R120 and R222: the drain iteration. A write appends the popped byte to the wire and leaves the readiness that was
drawn. Where the draw comes from is the model's choice (log 3): the next of `draws`, or a free value when there is
none. -/
def Obligations.DrainIterationMovesOneByte : Prop :=
  ∀ (s : State) (rb : Ring 8),
    (s.u.txReady = false → s.drainIter = .ok (s, .exit)) ∧
    (s.u.txReady = true → s.tx = some rb → rb.count = 0 →
      s.drainIter = .ok ({ s with txie := false }, .exit)) ∧
    ∀ b, s.u.txReady = true → s.tx = some rb → rb.count ≠ 0 → rb.rd < s.cfg.cTx →
      rb.store.read rb.rd = some b →
      (∀ d ds, s.draws = d :: ds →
        s.drainIter = .ok ({ s with
          tx := some { rb with rd := (rb.rd + 1) % s.cfg.cTx, count := rb.count - 1 }, draws := ds,
          u := { s.u with txWire := s.u.txWire ++ [b], txReady := d } }, .goOn)) ∧
      (s.draws = [] →
        s.drainIter = .ok ({ s with
          tx := some { rb with rd := (rb.rd + 1) % s.cfg.cTx, count := rb.count - 1 },
          freeTick := s.freeTick + 1,
          u := { s.u with txWire := s.u.txWire ++ [b], txReady := Config.freeDraw s.freeTick } }, .goOn))

/-- R122 and R123: PRIME's word; the labelled steps of the prime sequence, in PRIME with continuation K1 and in every
write-family command that enqueues a byte with continuation W9; PRIME's own L0 and K1. -/
def Obligations.PrimeSequenceSteps : Prop :=
  (∀ (s : State) (i : Instr) (n : Nat), i.hasLabel s.cfg .p0 = true →
    (s.At i .p0 n → s.u.txReady = false → exec i s = .next { s with fg := .busy i i.continuation n }) ∧
    (s.At i .p0 n → s.u.txReady = true → exec i s = .next { s with fg := .busy i .p1 n }) ∧
    (s.At i .p1 n → exec i s = .next { s with txie := false, fg := .busy i .p2 n }) ∧
    (∀ t, s.At i .p2 n → s.drainIter = .ok (t, .goOn) → exec i s = .next { t with fg := .busy i .p2 n }) ∧
    (∀ t, s.At i .p2 n → s.drainIter = .ok (t, .exit) → exec i s = .next { t with fg := .busy i .p3 n }) ∧
    (s.At i .p3 n → exec i s = .next { s with txie := true, fg := .busy i i.continuation n })) ∧
  (∀ lenMax : Nat, decode lenMax 0x5000#16 .none = .ok .prime) ∧
  ∀ (s : State) (n : Nat),
    (s.At .prime .l0 n → s.life = false → exec .prime s = .next { s with fault := FaultCode.lifecycle.bits }) ∧
    (s.At .prime .l0 n → s.life = true → exec .prime s = .next { s with fg := .busy .prime .p0 n }) ∧
    (s.At .prime .k1 n →
      exec .prime s = .next { s with results := s.results ++ [.none], fg := .idle, cpc := s.cpc + 1 })

/-- R150: the enqueue loop of every write-family command that has a byte to send. With CFG.BOF = 1 and `tx` full W1 holds;
otherwise it pushes the byte at the cursor and goes on to the next byte or to P0; W9 returns the result. -/
def Obligations.EnqueueLoopSteps : Prop :=
  ∀ (s : State) (i : Instr) (n : Nat) (rb : Ring 8), i.hasLabel s.cfg .w1 = true → s.tx = some rb →
    (s.At i .w1 n → s.cfgBof = some true → rb.count = s.cfg.cTx → exec i s = .next s) ∧
    (∀ bof b, s.At i .w1 n → s.cfgBof = some bof → (bof = false ∨ rb.count ≠ s.cfg.cTx) →
      rb.wr < s.cfg.cTx → (i.sends s.cfg)[n]? = some b →
      ∃ rb', rb.push s.cfg.cTx b = .ok rb' ∧
        exec i s = .next { s with
          tx := some rb',
          fg := .busy i (if n + 1 < (i.sends s.cfg).length then .w1 else .p0) (n + 1) }) ∧
    (s.At i .w9 n →
      exec i s = .next { s with results := s.results ++ [i.writeFamilyResult], fg := .idle, cpc := s.cpc + 1 })

/-- R151, R152, R153, R157: the words of PUTC, PUTS and WRITE; what PUTC, PUTS and WRITE send and return; at L0 a
no-op call returns COUNT(0) and touches nothing else, every other call goes to W1 with the cursor at 0. The body PUTS
sends is the longest prefix without 0x00. -/
def Obligations.WriteFamilyEntry : Prop :=
  (∀ (lenMax : Nat) (d : Byte), decode lenMax (0x60#8 ++ d) .none = .ok (.putc d)) ∧
  (∀ lenMax : Nat, decode lenMax 0x7000#16 .null = .ok (.puts .null) ∧
    decode lenMax 0x8000#16 .null = .ok (.write .null)) ∧
  (∀ (lenMax : Nat) (l : List Byte), l.length ≤ lenMax →
    decode lenMax 0x7000#16 (.bytes l) = .ok (.puts (.bytes l)) ∧
    decode lenMax 0x8000#16 (.bytes l) = .ok (.write (.bytes l))) ∧
  (∀ (cfg : Config) (d : Byte) (l : List Byte),
    (Instr.putc d).sends cfg = [d] ∧ (Instr.putc d).writeFamilyResult = .none ∧
    (Instr.puts (.bytes l)).sends cfg = cStringBody l ++ [cfg.term] ∧
    (Instr.puts (.bytes l)).writeFamilyResult = .count ((cStringBody l).length + 1) ∧
    (Instr.write (.bytes l)).sends cfg = l ∧ (Instr.write (.bytes l)).writeFamilyResult = .count l.length ∧
    (Instr.puts .null).sends cfg = [] ∧ (Instr.write .null).sends cfg = []) ∧
  (∀ l : List Byte, (0#8 ∉ cStringBody l) ∧
    (l = cStringBody l ∨ ∃ rest, l = cStringBody l ++ 0#8 :: rest)) ∧
  ∀ (s : State) (i : Instr) (n : Nat), i.isWriteFamily = true → s.At i .l0 n →
    (s.life = false → exec i s = .next { s with fault := FaultCode.lifecycle.bits }) ∧
    (s.life = true → i.sends s.cfg = [] →
      exec i s = .next { s with results := s.results ++ [.count 0], fg := .idle, cpc := s.cpc + 1 }) ∧
    (s.life = true → i.sends s.cfg ≠ [] → exec i s = .next { s with fg := .busy i .w1 0 })

/-- R212, R126: the entry code; transmit service entry sets ACTIVE and nothing else, and happens only when FAULT = 0,
ACTIVE = 0, TXIE = 1 and the hardware is ready; each T1 step is one drain iteration; the exit clears ACTIVE. -/
def Obligations.TransmitServiceSteps : Prop :=
  (∀ lenMax : Nat, decodeRow lenMax 0xE000#16 .none = some .txisr) ∧
  ∀ s : State,
    (s.fault = 0#3 → s.active = false → s.txie = true → s.u.txReady = true →
      exec .txisr s = .next { s with active := true }) ∧
    (s.active = false → (s.fault ≠ 0#3 ∨ s.txie = false ∨ s.u.txReady = false) → exec .txisr s = .next s) ∧
    (∀ t, s.fault = 0#3 → s.active = true → s.drainIter = .ok (t, .goOn) → exec .txisr s = .next t) ∧
    ∀ t, s.fault = 0#3 → s.active = true → s.drainIter = .ok (t, .exit) →
      exec .txisr s = .next { t with active := false }

/-- R140, R213, R224: the entry code, which the port refuses; receive service is one step that consumes the ready byte
and pushes it into `rx`; it happens only when FAULT = 0, ACTIVE = 0, RXIE = 1 and a byte is ready. -/
def Obligations.ReceiveServiceStep : Prop :=
  (∀ lenMax : Nat, decodeRow lenMax 0xF000#16 .none = some .rxisr ∧
    ∀ p, ∃ e, decode lenMax 0xF000#16 p = .error e) ∧
  ∀ s : State,
    (∀ b rb, s.fault = 0#3 → s.active = false → s.rxie = true → s.u.rxReady = true → s.u.rxData = some b →
      s.rx = some rb → rb.wr < s.cfg.cRx →
      ∃ rb', rb.push s.cfg.cRx b = .ok rb' ∧
        exec .rxisr s = .next { s with rx := some rb', u := { s.u with rxReady := false } }) ∧
    ((s.fault ≠ 0#3 ∨ s.active = true ∨ s.rxie = false ∨ s.u.rxReady = false) → exec .rxisr s = .next s)

/-- R221, R223, R226: the environment's steps, in every state; TX_FALL only with TX_READY_MAY_FALL. -/
def Obligations.EnvironmentSteps : Prop :=
  ∀ s : State,
    moveStep (.env .txRise) s = .next { s with u := { s.u with txReady := true } } ∧
    (s.cfg.txReadyMayFall = true →
      moveStep (.env .txFall) s = .next { s with u := { s.u with txReady := false } }) ∧
    (s.cfg.txReadyMayFall = false → moveStep (.env .txFall) s = .next s) ∧
    ∀ b, moveStep (.env (.rxDeliver b)) s =
      .next { s with u := { s.u with rxData := some b, rxReady := true, rxLog := s.u.rxLog ++ [b] } }

/-! ## Commands run to their end -/

/-- R150 to R153, R158: on a non-blocking port every write-family command completes with its result, whatever the hardware
draws, when no other agent steps in between. -/
def Obligations.NonBlockingWriteCompletes : Prop :=
  ∀ (s : State) (i : Instr) (k : Nat), s.Inv → s.At i .l0 k → i.isWriteFamily = true → s.life = true →
    s.cfgBof = some false →
    ∃ n t, runInstr i n s = .next t ∧ t.fg = .idle ∧ t.cpc = s.cpc + 1 ∧
      t.results = s.results ++ [i.writeFamilyResult]

/-- R128: PRIME with the hardware ready and every draw true sends all of `tx` in order and leaves TXIE = 1; the next
transmit service finds `tx` empty and leaves TXIE = 0. No other agent steps in between, and the draws are read from
the model's own list `draws` (log 3). -/
def Obligations.PrimeSendsEverythingInOrder : Prop :=
  ∀ (s : State) (rb : Ring 8) (l : List Byte) (k : Nat) (ds : List Bool),
    s.Inv → s.At .prime .l0 k → s.life = true → s.tx = some rb → rb.Holds s.cfg.cTx l → s.u.txReady = true →
    s.draws = List.replicate l.length true ++ ds →
    ∃ t t', runInstr .prime (l.length + 6) s = .next t ∧
      t.u.txWire = s.u.txWire ++ l ∧ t.txie = true ∧ t.fg = .idle ∧ t.cpc = s.cpc + 1 ∧
      t.results = s.results ++ [.none] ∧ t.tx.map Ring.count = some 0 ∧
      runInstr .txisr 2 t = .next t' ∧ t'.txie = false ∧ t'.active = false ∧ t'.u.txWire = t.u.txWire

/-- R129: a drain loop runs at most `tx.count + 1` iterations, in TXI and at P2; and while TXI runs every step of any
agent ends the service, takes a byte from `tx`, or leaves `tx` and ACTIVE as they are. -/
def Obligations.DrainLoopsEnd : Prop :=
  (∀ (s : State) (rb : Ring 8), s.Inv → s.fault = 0#3 → s.active = true → s.tx = some rb →
    ∃ n t, n ≤ rb.count + 1 ∧ runInstr .txisr n s = .next t ∧ t.active = false) ∧
  (∀ (s : State) (i : Instr) (k : Nat) (rb : Ring 8), s.Inv → s.At i .p2 k → s.tx = some rb →
    ∃ n t, n ≤ rb.count + 1 ∧ runInstr i n s = .next t ∧ t.fg = .busy i .p3 k) ∧
  ∀ (s t : State) (rb : Ring 8), s.Inv → s.active = true → s.tx = some rb → step s = .next t →
    t.active = false ∨ (∃ rb', t.tx = some rb' ∧ rb'.count + 1 = rb.count) ∨ (t.tx = s.tx ∧ t.active = true)

/-- R158: with CFG.BOF = 0 and no byte popped meanwhile (the hardware busy), a PUTC, PUTS or WRITE that sends `m` bytes
onto `k` unread ones never holds and leaves the last `min(k + m, C_TX)` of them. No other agent steps in between. -/
def Obligations.OverrunKeepsLastBytes : Prop :=
  ∀ (s : State) (i : Instr) (rb : Ring 8) (old : List Byte) (k : Nat),
    s.Inv → i.isWriteFamily = true → i.sends s.cfg ≠ [] → s.At i .l0 k → s.life = true → s.cfgBof = some false →
    s.tx = some rb → rb.Holds s.cfg.cTx old → s.u.txReady = false →
    ∃ t rb', runInstr i ((i.sends s.cfg).length + 3) s = .next t ∧ t.tx = some rb' ∧
      rb'.Holds s.cfg.cTx (lastOf (min (old.length + (i.sends s.cfg).length) s.cfg.cTx) (old ++ i.sends s.cfg)) ∧
      t.results = s.results ++ [i.writeFamilyResult] ∧ t.fg = .idle ∧ t.cpc = s.cpc + 1 ∧ t.txie = s.txie ∧
      t.u = s.u

/-! ## Rules about the whole machine -/

/-- R121: the only steps that change TXIE. -/
def Obligations.TxieChangesOnlyByTheTable : Prop :=
  ∀ s t : State, step s = .next t →
    (s.txie = false → t.txie = true → s.takeMove.1 = .fg ∧ ∃ i n, s.fg = .busy i .p3 n) ∧
    (s.txie = true → t.txie = false →
      (s.takeMove.1 = .fg ∧ ∃ i l n, s.fg = .busy i l n ∧
        (l = .p1 ∨ (l = .l0 ∧ (i = .dtor ∨ ∃ b, i = .ctor b)) ∨
         (l = .p2 ∧ s.u.txReady = true ∧ s.tx.map Ring.count = some 0))) ∨
      (s.takeMove.1 = .txi ∧ s.active = true ∧ s.u.txReady = true ∧ s.tx.map Ring.count = some 0))

/-- R24, R26, R27: LIFE, RXIE and CFG.BOF change only by CTOR, which sets them to 1, 1 and its operand, and by DTOR, which
clears them. -/
def Obligations.ConstructionBitsChangeOnlyByCtorDtor : Prop :=
  ∀ s t : State, step s = .next t →
    (t.life ≠ s.life ∨ t.rxie ≠ s.rxie ∨ t.cfgBof ≠ s.cfgBof) →
    s.takeMove.1 = .fg ∧ ∃ i n, s.fg = .busy i .l0 n ∧
      ((∃ b, i = .ctor b ∧ t.life = true ∧ t.rxie = true ∧ t.cfgBof = some b) ∨
       (i = .dtor ∧ t.life = false ∧ t.rxie = false ∧ t.cfgBof = none))

/-- R124: while FG is at P2 or P3, TXIE = 0 and ACTIVE = 0, and TXI has no enabled step. -/
def Obligations.PrimeExcludesTransmitService : Prop :=
  ∀ (s : State) (i : Instr) (l : Label) (n : Nat), s.Inv → s.fg = .busy i l n → (l = .p2 ∨ l = .p3) →
    s.txie = false ∧ s.active = false ∧ s.txEntryEnabled = false ∧ exec .txisr s = .next s

/-- R125: a byte reaches the hardware only in a drain iteration, which TXI runs with ACTIVE = 1 or FG at P2 with TXIE = 0;
the hardware was ready, and the byte is the oldest of `tx`, which loses it. -/
def Obligations.OnlyDrainsWriteTheHardware : Prop :=
  ∀ s t : State, s.Inv → step s = .next t → t.u.txWire ≠ s.u.txWire →
    ((s.takeMove.1 = .txi ∧ s.active = true) ∨
     (s.takeMove.1 = .fg ∧ s.txie = false ∧ s.active = false ∧ ∃ i n, s.fg = .busy i .p2 n)) ∧
    s.u.txReady = true ∧ ∃ rb b, s.tx = some rb ∧ rb.count ≠ 0 ∧ rb.store.read rb.rd = some b ∧
      t.u.txWire = s.u.txWire ++ [b] ∧
      t.tx = some { rb with rd := (rb.rd + 1) % s.cfg.cTx, count := rb.count - 1 }

/-- R106, R128: whatever step is taken, the unread bytes of `tx` stay, gain the byte FG pushes (losing the oldest when
full), or lose their oldest to the wire. -/
def Obligations.TransmitBytesKeepTheirOrder : Prop :=
  ∀ (s t : State) (rb rb' : Ring 8) (l : List Byte), s.Inv → step s = .next t →
    s.tx = some rb → t.tx = some rb' → rb.Holds s.cfg.cTx l →
    ∃ l', rb'.Holds s.cfg.cTx l' ∧
      ((l' = l ∧ t.u.txWire = s.u.txWire) ∨
       (s.takeMove.1 = .fg ∧ (∃ v, l' = pushQueue s.cfg.cTx l v) ∧ t.u.txWire = s.u.txWire) ∨
       (∃ b, l = b :: l' ∧ t.u.txWire = s.u.txWire ++ [b]))

/-- R142, R155: whatever step is taken, the unread bytes of `rx` stay, gain the byte RXI read (losing the oldest when
full), or lose their oldest to the GETC or RB.POP that returns it. -/
def Obligations.ReceivedBytesKeepTheirOrder : Prop :=
  ∀ (s t : State) (rb rb' : Ring 8) (l : List Byte), s.Inv → step s = .next t →
    s.rx = some rb → t.rx = some rb' → rb.Holds s.cfg.cRx l →
    ∃ l', rb'.Holds s.cfg.cRx l' ∧
      (l' = l ∨
       (s.takeMove.1 = .rxi ∧ ∃ v, s.u.rxReady = true ∧ s.u.rxData = some v ∧ l' = pushQueue s.cfg.cRx l v ∧
         t.u.rxReady = false) ∨
       (s.takeMove.1 = .fg ∧ ∃ v, l = v :: l' ∧
         (t.results = s.results ++ [.byte v] ∨ t.results = s.results ++ [.opt (some v)])))

/-- R215, R217: interrupt service neither reads nor writes the foreground, and while ACTIVE = 1 neither FG nor RXI
steps. -/
def Obligations.InterruptsLeaveTheForeground : Prop :=
  (∀ (s t : State) (i : Instr) (fg : FgState) (c : Nat), (i = .txisr ∨ i = .rxisr) → exec i s = .next t →
    t.fg = s.fg ∧ t.cpc = s.cpc ∧ t.results = s.results ∧
    exec i { s with fg := fg, cpc := c } = .next { t with fg := fg, cpc := c }) ∧
  ∀ s : State, s.active = true → moveStep .fg s = .next s ∧ moveStep .rxi s = .next s

/-- R253: FG at W1 with CFG.BOF = 1, `tx` full and TXIE = 0 holds for ever: in every state reached, FG is where it was. -/
def Obligations.BlockedWriteNeverEnds : Prop :=
  ∀ (s t : State) (i : Instr) (n : Nat) (rb : Ring 8), s.Inv → s.fg = .busy i .w1 n → s.cfgBof = some true →
    s.tx = some rb → rb.count = s.cfg.cTx → s.txie = false → Reaches s t →
    t.fg = s.fg ∧ t.tx = s.tx ∧ t.txie = false ∧ t.cpc = s.cpc ∧ t.results = s.results ∧
    t.u.txWire = s.u.txWire ∧ t.quiescent = false

/-- R254: bytes in `tx` with TXIE = 0 are never sent while FG waits in SYNC, whatever the environment does; and while
FG is IDLE no step of another agent moves them. -/
def Obligations.StrandedBytesStay : Prop :=
  (∀ (s t : State) (n : Nat) (rb : Ring 8), s.Inv → s.fg = .busy .sync .s1 n → s.txie = false →
    s.tx = some rb → rb.count ≠ 0 → Reaches s t →
    t.fg = s.fg ∧ t.tx = s.tx ∧ t.txie = false ∧ t.u.txWire = s.u.txWire ∧ t.results = s.results) ∧
  ∀ s t : State, s.Inv → s.fg = .idle → s.txie = false → s.takeMove.1 ≠ .fg → step s = .next t →
    t.tx = s.tx ∧ t.txie = false ∧ t.u.txWire = s.u.txWire

/-- R233: a quiescent state is one in which FG is IDLE with every command done, ACTIVE and FAULT are 0 and no service is
enabled; from it no step of FG, TXI or RXI changes anything. -/
def Obligations.QuiescentStatesAreAtRest : Prop :=
  ∀ s : State,
    (s.quiescent = true ↔
      s.fg = .idle ∧ s.cpc = s.prog.length ∧ s.active = false ∧ s.fault = 0#3 ∧
      s.txEntryEnabled = false ∧ s.rxServiceEnabled = false) ∧
    ∀ m : Move, s.quiescent = true → m.agent ≠ .env → moveStep m s = .next s

/-! ## Frames -/

/-- RB.EMPTY, RB.FULL, READABLE and SYNC change nothing but `fg.state`, `cpc`, the result log and, when they raise one,
FAULT; they store nothing. -/
def Obligations.QueryFrame : Prop :=
  ∀ (s t : State) (i : Instr) (r : Inst),
    (i = .rbEmpty r ∨ i = .rbFull r ∨ i = .readable ∨ i = .sync) → exec i s = .next t →
    t = { s with fault := t.fault, fg := t.fg, cpc := t.cpc, results := t.results } ∧
    ∀ q a, t.slot q a = s.slot q a

/-- RB.POP and GETC also move `rx.rd` and lower `rx.count`; they store nothing. -/
def Obligations.ReadFrame : Prop :=
  ∀ (s t : State) (i : Instr) (r : Inst), (i = .rbPop r ∨ i = .getc) → exec i s = .next t →
    t = { s with fault := t.fault, fg := t.fg, cpc := t.cpc, results := t.results, rx := t.rx } ∧
    t.rx.map Ring.wr = s.rx.map Ring.wr ∧ ∀ q a, t.slot q a = s.slot q a

/-- RB.PUSH writes `tx`, `fg.state`, `cpc`, the result log and FAULT only, and stores to no slot but the one `tx.wr`
names. -/
def Obligations.RbPushFrame : Prop :=
  ∀ (s t : State) (r : Inst) (d : Byte), exec (.rbPush r d) s = .next t →
    t = { s with fault := t.fault, fg := t.fg, cpc := t.cpc, results := t.results, tx := t.tx } ∧
    (∀ a, t.slot .rx a = s.slot .rx a) ∧
    ∀ a, s.storeSlot .tx ≠ some a → t.slot .tx a = s.slot .tx a

/-- PUTC, PUTS and WRITE write `tx`, TXIE, the transmit side of the UART, the draws taken, `fg.state`, `cpc`, the result
log and FAULT only; at W1 they store to the slot `tx.wr` names, at every other label to none. -/
def Obligations.WriteFamilyFrame : Prop :=
  ∀ (s t : State) (i : Instr), i.isWriteFamily = true → exec i s = .next t →
    t = { s with fault := t.fault, fg := t.fg, cpc := t.cpc, results := t.results, tx := t.tx, txie := t.txie,
                 u := { s.u with txReady := t.u.txReady, txWire := t.u.txWire }, draws := t.draws,
                 freeTick := t.freeTick } ∧
    (∀ a, t.slot .rx a = s.slot .rx a) ∧
    (∀ a, s.storeSlot .tx ≠ some a → t.slot .tx a = s.slot .tx a) ∧
    ((∀ n, s.fg ≠ .busy i .w1 n) → ∀ a, t.slot .tx a = s.slot .tx a)

/-- PRIME and TXISR store nothing. Both may move `tx.rd` and `tx.count`, TXIE, the transmit side of the UART, the
draws and FAULT; PRIME also moves FG and the result log, TXISR also ACTIVE. -/
def Obligations.DrainFrame : Prop :=
  ∀ s t : State,
    (exec .prime s = .next t →
      t = { s with fault := t.fault, fg := t.fg, cpc := t.cpc, results := t.results, tx := t.tx, txie := t.txie,
                   u := { s.u with txReady := t.u.txReady, txWire := t.u.txWire }, draws := t.draws,
                   freeTick := t.freeTick } ∧
      t.tx.map Ring.wr = s.tx.map Ring.wr ∧ ∀ q a, t.slot q a = s.slot q a) ∧
    (exec .txisr s = .next t →
      t = { s with fault := t.fault, active := t.active, tx := t.tx, txie := t.txie,
                   u := { s.u with txReady := t.u.txReady, txWire := t.u.txWire }, draws := t.draws,
                   freeTick := t.freeTick } ∧
      t.tx.map Ring.wr = s.tx.map Ring.wr ∧ ∀ q a, t.slot q a = s.slot q a)

/-- RXISR writes `rx`, `u.rx_ready` and FAULT only, and stores to no slot but the one `rx.wr` names. TXIE, RXIE and ACTIVE
are unchanged (R140). -/
def Obligations.RxisrFrame : Prop :=
  ∀ s t : State, exec .rxisr s = .next t →
    t = { s with fault := t.fault, rx := t.rx, u := { s.u with rxReady := t.u.rxReady } } ∧
    (∀ a, t.slot .tx a = s.slot .tx a) ∧
    ∀ a, s.storeSlot .rx ≠ some a → t.slot .rx a = s.slot .rx a

/-- CTOR and DTOR write LIFE, CFG.BOF, TXIE, RXIE, the instances, `fg.state`, `cpc`, the result log and FAULT only. Every
slot keeps its content, or, in the step that changes LIFE, loses it. -/
def Obligations.LifecycleFrame : Prop :=
  ∀ (s t : State) (i : Instr), (i = .dtor ∨ ∃ b, i = .ctor b) → exec i s = .next t →
    t = { s with fault := t.fault, fg := t.fg, cpc := t.cpc, results := t.results, life := t.life,
                 cfgBof := t.cfgBof, txie := t.txie, rxie := t.rxie, tx := t.tx, rx := t.rx } ∧
    ((∀ q a, t.slot q a = s.slot q a) ∨ (t.life ≠ s.life ∧ ∀ q a, t.slot q a = none))
end

