-- ==== Sys2Proof/Laws/Memory.lean ====
section
/-! SUPPORT. Storage: a read after a write, and that a write keeps the canonical form and the address range. -/

namespace Sys2Proof.Machine

variable {w : Nat}

@[simp] theorem Memory.read_nil (i : Nat) : Memory.read ([] : Memory w) i = none := rfl

/-- R52: the slot written holds the value written. -/
@[simp] theorem Memory.read_write_same (m : Memory w) (i : Nat) (v : BitVec w) :
    (m.write i v).read i = some v := by
  induction m with
  | nil => simp [Memory.write, Memory.read]
  | cons x m ih =>
    obtain ⟨a, y⟩ := x
    simp only [Memory.write]
    split
    · simp [Memory.read]
    · split
      · simp [Memory.read]
      · rename_i h
        simp [Memory.read, h, ih]

/-- R52: no other slot changes. -/
theorem Memory.read_write_of_ne (m : Memory w) {i j : Nat} (h : j ≠ i) (v : BitVec w) :
    (m.write i v).read j = m.read j := by
  induction m with
  | nil => simp [Memory.write, Memory.read, h]
  | cons x m ih =>
    obtain ⟨a, y⟩ := x
    simp only [Memory.write]
    split
    · simp [Memory.read, h]
    · split
      · rename_i _ e
        subst e
        simp [Memory.read, h]
      · simp [Memory.read, ih]

/-- Every slot number after a write is the one written or was there before. -/
theorem Memory.fst_of_mem_write {m : Memory w} {i : Nat} {v : BitVec w} {x : Nat × BitVec w}
    (h : x ∈ m.write i v) : x.1 = i ∨ ∃ y ∈ m, y.1 = x.1 := by
  induction m with
  | nil =>
    simp only [Memory.write, List.mem_singleton] at h
    exact .inl (by rw [h])
  | cons z m ih =>
    obtain ⟨a, y⟩ := z
    simp only [Memory.write] at h
    split at h
    · rcases List.mem_cons.mp h with h | h
      · exact .inl (by rw [h])
      · exact .inr ⟨x, h, rfl⟩
    · split at h
      · rcases List.mem_cons.mp h with h | h
        · exact .inl (by rw [h])
        · exact .inr ⟨x, List.mem_cons_of_mem _ h, rfl⟩
      · rcases List.mem_cons.mp h with h | h
        · exact .inr ⟨_, List.mem_cons_self, by rw [h]⟩
        · rcases ih h with h | ⟨y, hy, e⟩
          · exact .inl h
          · exact .inr ⟨y, List.mem_cons_of_mem _ hy, e⟩

/-- A write keeps the canonical form. -/
theorem Memory.write_wf {m : Memory w} (h : m.wf) (i : Nat) (v : BitVec w) : (m.write i v).wf := by
  induction m with
  | nil => simp [Memory.write]
  | cons x m ih =>
    obtain ⟨a, y⟩ := x
    obtain ⟨ha, hm⟩ := List.pairwise_cons.mp h
    simp only [Memory.write]
    split
    · rename_i hlt
      refine List.pairwise_cons.mpr ⟨fun z hz => ?_, h⟩
      rcases List.mem_cons.mp hz with rfl | hz
      · exact hlt
      · exact Nat.lt_trans hlt (ha z hz)
    · split
      · rename_i e
        subst e
        exact List.pairwise_cons.mpr ⟨ha, hm⟩
      · rename_i h1 h2
        refine List.pairwise_cons.mpr ⟨fun z hz => ?_, ih hm⟩
        rcases Memory.fst_of_mem_write hz with e | ⟨q, hq, e⟩
        · simp only [e]
          omega
        · simpa [← e] using ha q hq

/-- A write below `c` keeps every listed slot below `c` (R53). -/
theorem Memory.write_inside {m : Memory w} {c i : Nat} (h : ∀ x ∈ m, x.1 < c) (hi : i < c) (v : BitVec w) :
    ∀ x ∈ m.write i v, x.1 < c := by
  intro x hx
  rcases Memory.fst_of_mem_write hx with e | ⟨y, hy, e⟩
  · exact e ▸ hi
  · exact e ▸ h y hy

end Sys2Proof.Machine
end

