-- ==== Sys2Proof/Laws/State.lean ====
section
/-! SUPPORT. What each update of State leaves in each field, so that no proof unfolds a record update. -/

namespace Sys2Proof.Machine

variable (s : State)

@[simp] theorem State.goto_life (i : Instr) (l : Label) (k : Nat) : (s.goto i l k).life = s.life := rfl
@[simp] theorem State.goto_cfgBof (i : Instr) (l : Label) (k : Nat) : (s.goto i l k).cfgBof = s.cfgBof := rfl
@[simp] theorem State.goto_txie (i : Instr) (l : Label) (k : Nat) : (s.goto i l k).txie = s.txie := rfl
@[simp] theorem State.goto_rxie (i : Instr) (l : Label) (k : Nat) : (s.goto i l k).rxie = s.rxie := rfl
@[simp] theorem State.goto_active (i : Instr) (l : Label) (k : Nat) : (s.goto i l k).active = s.active := rfl
@[simp] theorem State.goto_fault (i : Instr) (l : Label) (k : Nat) : (s.goto i l k).fault = s.fault := rfl
@[simp] theorem State.goto_tx (i : Instr) (l : Label) (k : Nat) : (s.goto i l k).tx = s.tx := rfl
@[simp] theorem State.goto_rx (i : Instr) (l : Label) (k : Nat) : (s.goto i l k).rx = s.rx := rfl
@[simp] theorem State.goto_cpc (i : Instr) (l : Label) (k : Nat) : (s.goto i l k).cpc = s.cpc := rfl
@[simp] theorem State.goto_fg (i : Instr) (l : Label) (k : Nat) : (s.goto i l k).fg = .busy i l k := rfl
@[simp] theorem State.goto_results (i : Instr) (l : Label) (k : Nat) : (s.goto i l k).results = s.results := rfl
@[simp] theorem State.goto_u (i : Instr) (l : Label) (k : Nat) : (s.goto i l k).u = s.u := rfl
@[simp] theorem State.goto_cfg (i : Instr) (l : Label) (k : Nat) : (s.goto i l k).cfg = s.cfg := rfl
@[simp] theorem State.goto_prog (i : Instr) (l : Label) (k : Nat) : (s.goto i l k).prog = s.prog := rfl
@[simp] theorem State.goto_sched (i : Instr) (l : Label) (k : Nat) : (s.goto i l k).sched = s.sched := rfl
@[simp] theorem State.goto_draws (i : Instr) (l : Label) (k : Nat) : (s.goto i l k).draws = s.draws := rfl
@[simp] theorem State.goto_freeTick (i : Instr) (l : Label) (k : Nat) : (s.goto i l k).freeTick = s.freeTick := rfl

@[simp] theorem State.complete_life (r : Result) : (s.complete r).life = s.life := rfl
@[simp] theorem State.complete_cfgBof (r : Result) : (s.complete r).cfgBof = s.cfgBof := rfl
@[simp] theorem State.complete_txie (r : Result) : (s.complete r).txie = s.txie := rfl
@[simp] theorem State.complete_rxie (r : Result) : (s.complete r).rxie = s.rxie := rfl
@[simp] theorem State.complete_active (r : Result) : (s.complete r).active = s.active := rfl
@[simp] theorem State.complete_fault (r : Result) : (s.complete r).fault = s.fault := rfl
@[simp] theorem State.complete_tx (r : Result) : (s.complete r).tx = s.tx := rfl
@[simp] theorem State.complete_rx (r : Result) : (s.complete r).rx = s.rx := rfl
@[simp] theorem State.complete_cpc (r : Result) : (s.complete r).cpc = s.cpc + 1 := rfl
@[simp] theorem State.complete_fg (r : Result) : (s.complete r).fg = .idle := rfl
@[simp] theorem State.complete_results (r : Result) : (s.complete r).results = s.results ++ [r] := rfl
@[simp] theorem State.complete_u (r : Result) : (s.complete r).u = s.u := rfl
@[simp] theorem State.complete_cfg (r : Result) : (s.complete r).cfg = s.cfg := rfl
@[simp] theorem State.complete_prog (r : Result) : (s.complete r).prog = s.prog := rfl
@[simp] theorem State.complete_sched (r : Result) : (s.complete r).sched = s.sched := rfl
@[simp] theorem State.complete_draws (r : Result) : (s.complete r).draws = s.draws := rfl
@[simp] theorem State.complete_freeTick (r : Result) : (s.complete r).freeTick = s.freeTick := rfl

@[simp] theorem State.setTxie_life (b : Bool) : (s.setTxie b).life = s.life := rfl
@[simp] theorem State.setTxie_cfgBof (b : Bool) : (s.setTxie b).cfgBof = s.cfgBof := rfl
@[simp] theorem State.setTxie_txie (b : Bool) : (s.setTxie b).txie = b := rfl
@[simp] theorem State.setTxie_rxie (b : Bool) : (s.setTxie b).rxie = s.rxie := rfl
@[simp] theorem State.setTxie_active (b : Bool) : (s.setTxie b).active = s.active := rfl
@[simp] theorem State.setTxie_fault (b : Bool) : (s.setTxie b).fault = s.fault := rfl
@[simp] theorem State.setTxie_tx (b : Bool) : (s.setTxie b).tx = s.tx := rfl
@[simp] theorem State.setTxie_rx (b : Bool) : (s.setTxie b).rx = s.rx := rfl
@[simp] theorem State.setTxie_cpc (b : Bool) : (s.setTxie b).cpc = s.cpc := rfl
@[simp] theorem State.setTxie_fg (b : Bool) : (s.setTxie b).fg = s.fg := rfl
@[simp] theorem State.setTxie_results (b : Bool) : (s.setTxie b).results = s.results := rfl
@[simp] theorem State.setTxie_u (b : Bool) : (s.setTxie b).u = s.u := rfl
@[simp] theorem State.setTxie_cfg (b : Bool) : (s.setTxie b).cfg = s.cfg := rfl
@[simp] theorem State.setTxie_prog (b : Bool) : (s.setTxie b).prog = s.prog := rfl
@[simp] theorem State.setTxie_sched (b : Bool) : (s.setTxie b).sched = s.sched := rfl
@[simp] theorem State.setTxie_draws (b : Bool) : (s.setTxie b).draws = s.draws := rfl
@[simp] theorem State.setTxie_freeTick (b : Bool) : (s.setTxie b).freeTick = s.freeTick := rfl

@[simp] theorem State.setRxie_life (b : Bool) : (s.setRxie b).life = s.life := rfl
@[simp] theorem State.setRxie_cfgBof (b : Bool) : (s.setRxie b).cfgBof = s.cfgBof := rfl
@[simp] theorem State.setRxie_txie (b : Bool) : (s.setRxie b).txie = s.txie := rfl
@[simp] theorem State.setRxie_rxie (b : Bool) : (s.setRxie b).rxie = b := rfl
@[simp] theorem State.setRxie_active (b : Bool) : (s.setRxie b).active = s.active := rfl
@[simp] theorem State.setRxie_fault (b : Bool) : (s.setRxie b).fault = s.fault := rfl
@[simp] theorem State.setRxie_tx (b : Bool) : (s.setRxie b).tx = s.tx := rfl
@[simp] theorem State.setRxie_rx (b : Bool) : (s.setRxie b).rx = s.rx := rfl
@[simp] theorem State.setRxie_cpc (b : Bool) : (s.setRxie b).cpc = s.cpc := rfl
@[simp] theorem State.setRxie_fg (b : Bool) : (s.setRxie b).fg = s.fg := rfl
@[simp] theorem State.setRxie_results (b : Bool) : (s.setRxie b).results = s.results := rfl
@[simp] theorem State.setRxie_u (b : Bool) : (s.setRxie b).u = s.u := rfl
@[simp] theorem State.setRxie_cfg (b : Bool) : (s.setRxie b).cfg = s.cfg := rfl
@[simp] theorem State.setRxie_prog (b : Bool) : (s.setRxie b).prog = s.prog := rfl
@[simp] theorem State.setRxie_sched (b : Bool) : (s.setRxie b).sched = s.sched := rfl
@[simp] theorem State.setRxie_draws (b : Bool) : (s.setRxie b).draws = s.draws := rfl
@[simp] theorem State.setRxie_freeTick (b : Bool) : (s.setRxie b).freeTick = s.freeTick := rfl

@[simp] theorem State.txEntry_life : (s.txEntry).life = s.life := rfl
@[simp] theorem State.txEntry_cfgBof : (s.txEntry).cfgBof = s.cfgBof := rfl
@[simp] theorem State.txEntry_txie : (s.txEntry).txie = s.txie := rfl
@[simp] theorem State.txEntry_rxie : (s.txEntry).rxie = s.rxie := rfl
@[simp] theorem State.txEntry_active : (s.txEntry).active = true := rfl
@[simp] theorem State.txEntry_fault : (s.txEntry).fault = s.fault := rfl
@[simp] theorem State.txEntry_tx : (s.txEntry).tx = s.tx := rfl
@[simp] theorem State.txEntry_rx : (s.txEntry).rx = s.rx := rfl
@[simp] theorem State.txEntry_cpc : (s.txEntry).cpc = s.cpc := rfl
@[simp] theorem State.txEntry_fg : (s.txEntry).fg = s.fg := rfl
@[simp] theorem State.txEntry_results : (s.txEntry).results = s.results := rfl
@[simp] theorem State.txEntry_u : (s.txEntry).u = s.u := rfl
@[simp] theorem State.txEntry_cfg : (s.txEntry).cfg = s.cfg := rfl
@[simp] theorem State.txEntry_prog : (s.txEntry).prog = s.prog := rfl
@[simp] theorem State.txEntry_sched : (s.txEntry).sched = s.sched := rfl
@[simp] theorem State.txEntry_draws : (s.txEntry).draws = s.draws := rfl
@[simp] theorem State.txEntry_freeTick : (s.txEntry).freeTick = s.freeTick := rfl

@[simp] theorem State.txReturn_life : (s.txReturn).life = s.life := rfl
@[simp] theorem State.txReturn_cfgBof : (s.txReturn).cfgBof = s.cfgBof := rfl
@[simp] theorem State.txReturn_txie : (s.txReturn).txie = s.txie := rfl
@[simp] theorem State.txReturn_rxie : (s.txReturn).rxie = s.rxie := rfl
@[simp] theorem State.txReturn_active : (s.txReturn).active = false := rfl
@[simp] theorem State.txReturn_fault : (s.txReturn).fault = s.fault := rfl
@[simp] theorem State.txReturn_tx : (s.txReturn).tx = s.tx := rfl
@[simp] theorem State.txReturn_rx : (s.txReturn).rx = s.rx := rfl
@[simp] theorem State.txReturn_cpc : (s.txReturn).cpc = s.cpc := rfl
@[simp] theorem State.txReturn_fg : (s.txReturn).fg = s.fg := rfl
@[simp] theorem State.txReturn_results : (s.txReturn).results = s.results := rfl
@[simp] theorem State.txReturn_u : (s.txReturn).u = s.u := rfl
@[simp] theorem State.txReturn_cfg : (s.txReturn).cfg = s.cfg := rfl
@[simp] theorem State.txReturn_prog : (s.txReturn).prog = s.prog := rfl
@[simp] theorem State.txReturn_sched : (s.txReturn).sched = s.sched := rfl
@[simp] theorem State.txReturn_draws : (s.txReturn).draws = s.draws := rfl
@[simp] theorem State.txReturn_freeTick : (s.txReturn).freeTick = s.freeTick := rfl

@[simp] theorem State.construct_life (b : Bool) : (s.construct b).life = true := rfl
@[simp] theorem State.construct_cfgBof (b : Bool) : (s.construct b).cfgBof = some b := rfl
@[simp] theorem State.construct_txie (b : Bool) : (s.construct b).txie = false := rfl
@[simp] theorem State.construct_rxie (b : Bool) : (s.construct b).rxie = true := rfl
@[simp] theorem State.construct_active (b : Bool) : (s.construct b).active = s.active := rfl
@[simp] theorem State.construct_fault (b : Bool) : (s.construct b).fault = s.fault := rfl
@[simp] theorem State.construct_tx (b : Bool) : (s.construct b).tx = some Ring.constructed := rfl
@[simp] theorem State.construct_rx (b : Bool) : (s.construct b).rx = some Ring.constructed := rfl
@[simp] theorem State.construct_cpc (b : Bool) : (s.construct b).cpc = s.cpc := rfl
@[simp] theorem State.construct_fg (b : Bool) : (s.construct b).fg = s.fg := rfl
@[simp] theorem State.construct_results (b : Bool) : (s.construct b).results = s.results := rfl
@[simp] theorem State.construct_u (b : Bool) : (s.construct b).u = s.u := rfl
@[simp] theorem State.construct_cfg (b : Bool) : (s.construct b).cfg = s.cfg := rfl
@[simp] theorem State.construct_prog (b : Bool) : (s.construct b).prog = s.prog := rfl
@[simp] theorem State.construct_sched (b : Bool) : (s.construct b).sched = s.sched := rfl
@[simp] theorem State.construct_draws (b : Bool) : (s.construct b).draws = s.draws := rfl
@[simp] theorem State.construct_freeTick (b : Bool) : (s.construct b).freeTick = s.freeTick := rfl

@[simp] theorem State.teardown_life : (s.teardown).life = false := rfl
@[simp] theorem State.teardown_cfgBof : (s.teardown).cfgBof = none := rfl
@[simp] theorem State.teardown_txie : (s.teardown).txie = false := rfl
@[simp] theorem State.teardown_rxie : (s.teardown).rxie = false := rfl
@[simp] theorem State.teardown_active : (s.teardown).active = s.active := rfl
@[simp] theorem State.teardown_fault : (s.teardown).fault = s.fault := rfl
@[simp] theorem State.teardown_tx : (s.teardown).tx = none := rfl
@[simp] theorem State.teardown_rx : (s.teardown).rx = none := rfl
@[simp] theorem State.teardown_cpc : (s.teardown).cpc = s.cpc := rfl
@[simp] theorem State.teardown_fg : (s.teardown).fg = s.fg := rfl
@[simp] theorem State.teardown_results : (s.teardown).results = s.results := rfl
@[simp] theorem State.teardown_u : (s.teardown).u = s.u := rfl
@[simp] theorem State.teardown_cfg : (s.teardown).cfg = s.cfg := rfl
@[simp] theorem State.teardown_prog : (s.teardown).prog = s.prog := rfl
@[simp] theorem State.teardown_sched : (s.teardown).sched = s.sched := rfl
@[simp] theorem State.teardown_draws : (s.teardown).draws = s.draws := rfl
@[simp] theorem State.teardown_freeTick : (s.teardown).freeTick = s.freeTick := rfl

@[simp] theorem State.envStep_life (e : EnvStep) : (s.envStep e).life = s.life := rfl
@[simp] theorem State.envStep_cfgBof (e : EnvStep) : (s.envStep e).cfgBof = s.cfgBof := rfl
@[simp] theorem State.envStep_txie (e : EnvStep) : (s.envStep e).txie = s.txie := rfl
@[simp] theorem State.envStep_rxie (e : EnvStep) : (s.envStep e).rxie = s.rxie := rfl
@[simp] theorem State.envStep_active (e : EnvStep) : (s.envStep e).active = s.active := rfl
@[simp] theorem State.envStep_fault (e : EnvStep) : (s.envStep e).fault = s.fault := rfl
@[simp] theorem State.envStep_tx (e : EnvStep) : (s.envStep e).tx = s.tx := rfl
@[simp] theorem State.envStep_rx (e : EnvStep) : (s.envStep e).rx = s.rx := rfl
@[simp] theorem State.envStep_cpc (e : EnvStep) : (s.envStep e).cpc = s.cpc := rfl
@[simp] theorem State.envStep_fg (e : EnvStep) : (s.envStep e).fg = s.fg := rfl
@[simp] theorem State.envStep_results (e : EnvStep) : (s.envStep e).results = s.results := rfl
@[simp] theorem State.envStep_u (e : EnvStep) : (s.envStep e).u = s.u.envStep s.cfg.txReadyMayFall e := rfl
@[simp] theorem State.envStep_cfg (e : EnvStep) : (s.envStep e).cfg = s.cfg := rfl
@[simp] theorem State.envStep_prog (e : EnvStep) : (s.envStep e).prog = s.prog := rfl
@[simp] theorem State.envStep_sched (e : EnvStep) : (s.envStep e).sched = s.sched := rfl
@[simp] theorem State.envStep_draws (e : EnvStep) : (s.envStep e).draws = s.draws := rfl
@[simp] theorem State.envStep_freeTick (e : EnvStep) : (s.envStep e).freeTick = s.freeTick := rfl

@[simp] theorem State.setInstance_tx_life (rb : Ring 8) : (s.setInstance .tx rb).life = s.life := rfl
@[simp] theorem State.setInstance_tx_cfgBof (rb : Ring 8) : (s.setInstance .tx rb).cfgBof = s.cfgBof := rfl
@[simp] theorem State.setInstance_tx_txie (rb : Ring 8) : (s.setInstance .tx rb).txie = s.txie := rfl
@[simp] theorem State.setInstance_tx_rxie (rb : Ring 8) : (s.setInstance .tx rb).rxie = s.rxie := rfl
@[simp] theorem State.setInstance_tx_active (rb : Ring 8) : (s.setInstance .tx rb).active = s.active := rfl
@[simp] theorem State.setInstance_tx_fault (rb : Ring 8) : (s.setInstance .tx rb).fault = s.fault := rfl
@[simp] theorem State.setInstance_tx_tx (rb : Ring 8) : (s.setInstance .tx rb).tx = some rb := rfl
@[simp] theorem State.setInstance_tx_rx (rb : Ring 8) : (s.setInstance .tx rb).rx = s.rx := rfl
@[simp] theorem State.setInstance_tx_cpc (rb : Ring 8) : (s.setInstance .tx rb).cpc = s.cpc := rfl
@[simp] theorem State.setInstance_tx_fg (rb : Ring 8) : (s.setInstance .tx rb).fg = s.fg := rfl
@[simp] theorem State.setInstance_tx_results (rb : Ring 8) : (s.setInstance .tx rb).results = s.results := rfl
@[simp] theorem State.setInstance_tx_u (rb : Ring 8) : (s.setInstance .tx rb).u = s.u := rfl
@[simp] theorem State.setInstance_tx_cfg (rb : Ring 8) : (s.setInstance .tx rb).cfg = s.cfg := rfl
@[simp] theorem State.setInstance_tx_prog (rb : Ring 8) : (s.setInstance .tx rb).prog = s.prog := rfl
@[simp] theorem State.setInstance_tx_sched (rb : Ring 8) : (s.setInstance .tx rb).sched = s.sched := rfl
@[simp] theorem State.setInstance_tx_draws (rb : Ring 8) : (s.setInstance .tx rb).draws = s.draws := rfl
@[simp] theorem State.setInstance_tx_freeTick (rb : Ring 8) : (s.setInstance .tx rb).freeTick = s.freeTick := rfl

@[simp] theorem State.setInstance_rx_life (rb : Ring 8) : (s.setInstance .rx rb).life = s.life := rfl
@[simp] theorem State.setInstance_rx_cfgBof (rb : Ring 8) : (s.setInstance .rx rb).cfgBof = s.cfgBof := rfl
@[simp] theorem State.setInstance_rx_txie (rb : Ring 8) : (s.setInstance .rx rb).txie = s.txie := rfl
@[simp] theorem State.setInstance_rx_rxie (rb : Ring 8) : (s.setInstance .rx rb).rxie = s.rxie := rfl
@[simp] theorem State.setInstance_rx_active (rb : Ring 8) : (s.setInstance .rx rb).active = s.active := rfl
@[simp] theorem State.setInstance_rx_fault (rb : Ring 8) : (s.setInstance .rx rb).fault = s.fault := rfl
@[simp] theorem State.setInstance_rx_tx (rb : Ring 8) : (s.setInstance .rx rb).tx = s.tx := rfl
@[simp] theorem State.setInstance_rx_rx (rb : Ring 8) : (s.setInstance .rx rb).rx = some rb := rfl
@[simp] theorem State.setInstance_rx_cpc (rb : Ring 8) : (s.setInstance .rx rb).cpc = s.cpc := rfl
@[simp] theorem State.setInstance_rx_fg (rb : Ring 8) : (s.setInstance .rx rb).fg = s.fg := rfl
@[simp] theorem State.setInstance_rx_results (rb : Ring 8) : (s.setInstance .rx rb).results = s.results := rfl
@[simp] theorem State.setInstance_rx_u (rb : Ring 8) : (s.setInstance .rx rb).u = s.u := rfl
@[simp] theorem State.setInstance_rx_cfg (rb : Ring 8) : (s.setInstance .rx rb).cfg = s.cfg := rfl
@[simp] theorem State.setInstance_rx_prog (rb : Ring 8) : (s.setInstance .rx rb).prog = s.prog := rfl
@[simp] theorem State.setInstance_rx_sched (rb : Ring 8) : (s.setInstance .rx rb).sched = s.sched := rfl
@[simp] theorem State.setInstance_rx_draws (rb : Ring 8) : (s.setInstance .rx rb).draws = s.draws := rfl
@[simp] theorem State.setInstance_rx_freeTick (rb : Ring 8) : (s.setInstance .rx rb).freeTick = s.freeTick := rfl

@[simp] theorem State.raise_life (c : FaultCode) : (s.raise c).life = s.life := by unfold State.raise; split <;> rfl
@[simp] theorem State.raise_cfgBof (c : FaultCode) : (s.raise c).cfgBof = s.cfgBof := by unfold State.raise; split <;> rfl
@[simp] theorem State.raise_txie (c : FaultCode) : (s.raise c).txie = s.txie := by unfold State.raise; split <;> rfl
@[simp] theorem State.raise_rxie (c : FaultCode) : (s.raise c).rxie = s.rxie := by unfold State.raise; split <;> rfl
@[simp] theorem State.raise_active (c : FaultCode) : (s.raise c).active = s.active := by unfold State.raise; split <;> rfl
@[simp] theorem State.raise_tx (c : FaultCode) : (s.raise c).tx = s.tx := by unfold State.raise; split <;> rfl
@[simp] theorem State.raise_rx (c : FaultCode) : (s.raise c).rx = s.rx := by unfold State.raise; split <;> rfl
@[simp] theorem State.raise_cpc (c : FaultCode) : (s.raise c).cpc = s.cpc := by unfold State.raise; split <;> rfl
@[simp] theorem State.raise_fg (c : FaultCode) : (s.raise c).fg = s.fg := by unfold State.raise; split <;> rfl
@[simp] theorem State.raise_results (c : FaultCode) : (s.raise c).results = s.results := by unfold State.raise; split <;> rfl
@[simp] theorem State.raise_u (c : FaultCode) : (s.raise c).u = s.u := by unfold State.raise; split <;> rfl
@[simp] theorem State.raise_cfg (c : FaultCode) : (s.raise c).cfg = s.cfg := by unfold State.raise; split <;> rfl
@[simp] theorem State.raise_prog (c : FaultCode) : (s.raise c).prog = s.prog := by unfold State.raise; split <;> rfl
@[simp] theorem State.raise_sched (c : FaultCode) : (s.raise c).sched = s.sched := by unfold State.raise; split <;> rfl
@[simp] theorem State.raise_draws (c : FaultCode) : (s.raise c).draws = s.draws := by unfold State.raise; split <;> rfl
@[simp] theorem State.raise_freeTick (c : FaultCode) : (s.raise c).freeTick = s.freeTick := by unfold State.raise; split <;> rfl

@[simp] theorem State.takeMove_life : s.takeMove.2.life = s.life := by unfold State.takeMove; split <;> rfl
@[simp] theorem State.takeMove_cfgBof : s.takeMove.2.cfgBof = s.cfgBof := by unfold State.takeMove; split <;> rfl
@[simp] theorem State.takeMove_txie : s.takeMove.2.txie = s.txie := by unfold State.takeMove; split <;> rfl
@[simp] theorem State.takeMove_rxie : s.takeMove.2.rxie = s.rxie := by unfold State.takeMove; split <;> rfl
@[simp] theorem State.takeMove_active : s.takeMove.2.active = s.active := by unfold State.takeMove; split <;> rfl
@[simp] theorem State.takeMove_fault : s.takeMove.2.fault = s.fault := by unfold State.takeMove; split <;> rfl
@[simp] theorem State.takeMove_tx : s.takeMove.2.tx = s.tx := by unfold State.takeMove; split <;> rfl
@[simp] theorem State.takeMove_rx : s.takeMove.2.rx = s.rx := by unfold State.takeMove; split <;> rfl
@[simp] theorem State.takeMove_cpc : s.takeMove.2.cpc = s.cpc := by unfold State.takeMove; split <;> rfl
@[simp] theorem State.takeMove_fg : s.takeMove.2.fg = s.fg := by unfold State.takeMove; split <;> rfl
@[simp] theorem State.takeMove_results : s.takeMove.2.results = s.results := by unfold State.takeMove; split <;> rfl
@[simp] theorem State.takeMove_u : s.takeMove.2.u = s.u := by unfold State.takeMove; split <;> rfl
@[simp] theorem State.takeMove_cfg : s.takeMove.2.cfg = s.cfg := by unfold State.takeMove; split <;> rfl
@[simp] theorem State.takeMove_prog : s.takeMove.2.prog = s.prog := by unfold State.takeMove; split <;> rfl
@[simp] theorem State.takeMove_draws : s.takeMove.2.draws = s.draws := by unfold State.takeMove; split <;> rfl

@[simp] theorem State.takeDraw_life : s.takeDraw.2.life = s.life := by unfold State.takeDraw; split <;> rfl
@[simp] theorem State.takeDraw_cfgBof : s.takeDraw.2.cfgBof = s.cfgBof := by unfold State.takeDraw; split <;> rfl
@[simp] theorem State.takeDraw_txie : s.takeDraw.2.txie = s.txie := by unfold State.takeDraw; split <;> rfl
@[simp] theorem State.takeDraw_rxie : s.takeDraw.2.rxie = s.rxie := by unfold State.takeDraw; split <;> rfl
@[simp] theorem State.takeDraw_active : s.takeDraw.2.active = s.active := by unfold State.takeDraw; split <;> rfl
@[simp] theorem State.takeDraw_fault : s.takeDraw.2.fault = s.fault := by unfold State.takeDraw; split <;> rfl
@[simp] theorem State.takeDraw_tx : s.takeDraw.2.tx = s.tx := by unfold State.takeDraw; split <;> rfl
@[simp] theorem State.takeDraw_rx : s.takeDraw.2.rx = s.rx := by unfold State.takeDraw; split <;> rfl
@[simp] theorem State.takeDraw_cpc : s.takeDraw.2.cpc = s.cpc := by unfold State.takeDraw; split <;> rfl
@[simp] theorem State.takeDraw_fg : s.takeDraw.2.fg = s.fg := by unfold State.takeDraw; split <;> rfl
@[simp] theorem State.takeDraw_results : s.takeDraw.2.results = s.results := by unfold State.takeDraw; split <;> rfl
@[simp] theorem State.takeDraw_u : s.takeDraw.2.u = s.u := by unfold State.takeDraw; split <;> rfl
@[simp] theorem State.takeDraw_cfg : s.takeDraw.2.cfg = s.cfg := by unfold State.takeDraw; split <;> rfl
@[simp] theorem State.takeDraw_prog : s.takeDraw.2.prog = s.prog := by unfold State.takeDraw; split <;> rfl
@[simp] theorem State.takeDraw_sched : s.takeDraw.2.sched = s.sched := by unfold State.takeDraw; split <;> rfl

/-- R200: the first fault is the one recorded. -/
theorem State.raise_fault (c : FaultCode) :
    (s.raise c).fault = if s.fault = 0#3 then c.bits else s.fault := by
  unfold State.raise; split <;> simp_all

@[simp] theorem State.capacity_tx : s.capacity .tx = s.cfg.cTx := rfl
@[simp] theorem State.capacity_rx : s.capacity .rx = s.cfg.cRx := rfl
@[simp] theorem State.instance?_tx : s.instance? .tx = s.tx := rfl
@[simp] theorem State.instance?_rx : s.instance? .rx = s.rx := rfl

end Sys2Proof.Machine
end

