-- ==== Sys2Proof/Laws/Ops.lean ====
section
/-! SUPPORT. One lemma per shared operation: everything it can do when it answers. Later proofs cite these and do not
unfold the operations. -/

namespace Sys2Proof.Machine

variable {w c : Nat} {s s' : State}

/-! ## Answering `ok` through a bind -/

theorem bind_eq_ok {α β : Type} {x : Except Stop α} {f : α → Except Stop β} {b : β} :
    (x >>= f) = .ok b ↔ ∃ a, x = .ok a ∧ f a = .ok b := by
  cases x <;> simp [bind, Except.bind]

@[simp] theorem bind_ok {α β : Type} (a : α) (f : α → Except Stop β) : (Except.ok a >>= f) = f a := rfl

@[simp] theorem bind_error {α β : Type} (e : Stop) (f : α → Except Stop β) :
    ((Except.error e : Except Stop α) >>= f) = .error e := rfl

@[simp] theorem valueOf_some {α : Type} (a : α) : valueOf (some a) = .ok a := rfl

@[simp] theorem valueOf_none {α : Type} : valueOf (none : Option α) = .error (.raise .internal) := rfl

theorem valueOf_eq_ok {α : Type} {o : Option α} {a : α} : valueOf o = .ok a ↔ o = some a := by
  cases o <;> simp

/-! ## Ring-buffer primitives -/

/-- R100: a push that answers. -/
theorem Ring.push_eq_ok {rb rb' : Ring w} {v : BitVec w} :
    rb.push c v = .ok rb' ↔
      rb.wr < c ∧
      ((rb.count = c ∧
          rb' = { store := rb.store.write rb.wr v, rd := (rb.rd + 1) % c, wr := (rb.wr + 1) % c,
                  count := rb.count }) ∨
       (rb.count ≠ c ∧
          rb' = { store := rb.store.write rb.wr v, rd := rb.rd, wr := (rb.wr + 1) % c,
                  count := rb.count + 1 })) := by
  unfold Ring.push Ring.isFull Ring.memWrite
  by_cases hc : rb.count = c <;> by_cases hw : rb.wr < c <;>
    simp [hc, hw, @eq_comm _ _ rb']

/-- R101: a pop that answers. -/
theorem Ring.pop_eq_ok {rb : Ring w} {x : Option (BitVec w) × Ring w} :
    rb.pop c = .ok x ↔
      (rb.count = 0 ∧ x = (none, rb)) ∨
      (rb.count ≠ 0 ∧ rb.rd < c ∧ ∃ v, rb.store.read rb.rd = some v ∧
        x = (some v, { rb with rd := (rb.rd + 1) % c, count := rb.count - 1 })) := by
  unfold Ring.pop Ring.isEmpty Ring.memRead
  by_cases h0 : rb.count = 0
  · simp [h0, @eq_comm _ _ x]
  · by_cases hr : rb.rd < c
    · cases h : rb.store.read rb.rd <;> simp [h0, hr, @eq_comm _ _ x]
    · simp [h0, hr]

/-- `RB_push` on the port. -/
theorem State.push_eq_ok {r : Inst} {v : Byte} :
    s.push r v = .ok s' ↔
      ∃ rb rb', s.instance? r = some rb ∧ rb.push (s.capacity r) v = .ok rb' ∧ s' = s.setInstance r rb' := by
  simp only [State.push, bind_eq_ok, valueOf_eq_ok, Except.ok.injEq]
  constructor
  · rintro ⟨rb, h1, rb', h2, h3⟩
    exact ⟨rb, rb', h1, h2, h3.symm⟩
  · rintro ⟨rb, rb', h1, h2, h3⟩
    exact ⟨rb, h1, rb', h2, h3.symm⟩

/-- `RB_pop` on the port. -/
theorem State.pop_eq_ok {r : Inst} {x : Option Byte × State} :
    s.pop r = .ok x ↔
      ∃ rb y, s.instance? r = some rb ∧ rb.pop (s.capacity r) = .ok y ∧ x = (y.1, s.setInstance r y.2) := by
  simp only [State.pop, bind_eq_ok, valueOf_eq_ok, Except.ok.injEq]
  constructor
  · rintro ⟨rb, h1, y, h2, h3⟩
    exact ⟨rb, y, h1, h2, h3.symm⟩
  · rintro ⟨rb, y, h1, h2, h3⟩
    exact ⟨rb, h1, y, h2, h3.symm⟩

theorem State.ringEmpty_eq_ok {r : Inst} {b : Bool} :
    s.ringEmpty r = .ok b ↔ ∃ rb, s.instance? r = some rb ∧ b = rb.isEmpty := by
  simp [State.ringEmpty, bind_eq_ok, valueOf_eq_ok, @eq_comm _ _ b]

theorem State.ringFull_eq_ok {r : Inst} {b : Bool} :
    s.ringFull r = .ok b ↔ ∃ rb, s.instance? r = some rb ∧ b = rb.isFull (s.capacity r) := by
  simp [State.ringFull, bind_eq_ok, valueOf_eq_ok, @eq_comm _ _ b]

theorem State.requireLife_eq_ok {u : Unit} : s.requireLife = .ok u ↔ s.life = true := by
  cases h : s.life <;> simp [State.requireLife, h]

/-! ## The UART -/

/-- R222: a write that answers. -/
theorem State.uartWrite_eq_ok {b : Byte} :
    s.uartWrite b = .ok s' ↔
      s.u.txReady = true ∧
      s' = { s.takeDraw.2 with u := { s.u with txWire := s.u.txWire ++ [b], txReady := s.takeDraw.1 } } := by
  cases h : s.u.txReady <;> simp [State.uartWrite, h, @eq_comm _ _ s']

/-- R224: a read that answers. -/
theorem State.uartRead_eq_ok {x : Byte × State} :
    s.uartRead = .ok x ↔
      s.u.rxReady = true ∧ ∃ v, s.u.rxData = some v ∧ x = (v, { s with u := { s.u with rxReady := false } }) := by
  cases h : s.u.rxReady
  · simp [State.uartRead, h]
  · cases h' : s.u.rxData <;> simp [State.uartRead, h, h', @eq_comm _ _ x]

/-! ## The drain iteration and the sequences around it -/

/-- R120: the three ways a drain iteration answers. -/
theorem State.drainIter_eq_ok {x : State × Drain} :
    s.drainIter = .ok x ↔
      (s.u.txReady = false ∧ x = (s, .exit)) ∨
      (s.u.txReady = true ∧ ∃ y, s.pop .tx = .ok y ∧
        ((y.1 = none ∧ x = (y.2.setTxie false, .exit)) ∨
         (∃ b s', y.1 = some b ∧ y.2.uartWrite b = .ok s' ∧ x = (s', .goOn)))) := by
  cases h : s.u.txReady
  · simp [State.drainIter, h, @eq_comm _ _ x]
  · simp only [State.drainIter, h, if_true, bind_eq_ok]
    constructor
    · rintro ⟨y, hy, e⟩
      refine .inr ⟨trivial, y, hy, ?_⟩
      cases hb : y.1 with
      | none => exact .inl ⟨rfl, by simpa [hb] using e.symm⟩
      | some b =>
        simp only [hb, bind_eq_ok] at e
        obtain ⟨s', h1, h2⟩ := e
        exact .inr ⟨b, s', rfl, h1, (Except.ok.inj h2).symm⟩
    · rintro (⟨⟨⟩, -⟩ | ⟨-, y, hy, h2 | ⟨b, s', h2, h3, h4⟩⟩)
      · exact ⟨y, hy, by simp [h2.1, h2.2]⟩
      · exact ⟨y, hy, by simp [h2, h3, h4]⟩

/-- A settled micro-step that answers a next state wrote its result, held, or raised a fault (R10, R200). -/
theorem State.settle_eq_next {x : Except Stop State} :
    s.settle x = .next s' ↔
      x = .ok s' ∨ (x = .error .hold ∧ s' = s) ∨ ∃ k, x = .error (.raise k) ∧ s' = s.raise k := by
  rcases x with (_ | k | f) | t <;> simp [State.settle, @eq_comm _ _ s']

/-- A foreground instruction that answers a next state: it held, it started, or its micro-step settled (R79, R216). -/
theorem State.fgStep_eq_next {i : Instr} {body : Label → Nat → Except Stop State} :
    s.fgStep i body = .next s' ↔
      (s.fgMayStep = false ∧ s' = s) ∨
      (s.fgMayStep = true ∧ s.fg = .idle ∧ s' = s.goto i .l0 0) ∨
      (s.fgMayStep = true ∧ ∃ j l k, s.fg = .busy j l k ∧
        ((j ≠ i ∧ s' = s) ∨ (j = i ∧ s.settle (body l k) = .next s'))) := by
  unfold State.fgStep
  cases h : s.fgMayStep
  · simp [@eq_comm _ _ s']
  · cases hf : s.fg with
    | idle => simp [@eq_comm _ _ s']
    | busy j l k => by_cases hj : j = i <;> simp [hj, @eq_comm _ _ s']

/-- At a label of the outstanding command, the instruction is its settled micro-step. -/
theorem State.fgStep_of_at {i : Instr} {l : Label} {k : Nat} {body : Label → Nat → Except Stop State}
    (h : s.At i l k) : s.fgStep i body = s.settle (body l k) := by
  simp [State.fgStep, h.1, h.2]

end Sys2Proof.Machine
end

