-- ==== Sys2Proof/Laws/PerInstr.lean ====
section
/-! SUPPORT. Facts about every instruction as syntax, one lemma per constructor. Family `EncodedFields`: the fields of the
encoded word are the instruction's own, and `Z` is 000 (spec/30_encoding.md R71). -/

namespace Sys2Proof.Laws

theorem opField_mkWord (op : BitVec 4) (s : Bool) (d : Byte) : opField (mkWord op s d) = op := by
  apply BitVec.eq_of_getLsbD_eq
  intro i hi
  simp only [opField, mkWord, BitVec.getLsbD_extractLsb', BitVec.getLsbD_append]
  have h1 : ¬ 12 + i < 8 := by omega
  have h2 : ¬ 12 + i - 8 < 3 := by omega
  have h3 : ¬ 12 + i - 8 - 3 < 1 := by omega
  have h4 : 12 + i - 8 - 3 - 1 = i := by omega
  simp only [hi, h1, h2, h3, h4, decide_true, Bool.true_and, if_false]

theorem sField_mkWord (op : BitVec 4) (s : Bool) (d : Byte) : sField (mkWord op s d) = s := by
  simp only [sField, mkWord, BitVec.getLsbD_append]
  simp

theorem zField_mkWord (op : BitVec 4) (s : Bool) (d : Byte) : zField (mkWord op s d) = 0#3 := by
  apply BitVec.eq_of_getLsbD_eq
  intro i hi
  simp only [zField, mkWord, BitVec.getLsbD_extractLsb', BitVec.getLsbD_append]
  simp [hi]

theorem dField_mkWord (op : BitVec 4) (s : Bool) (d : Byte) : dField (mkWord op s d) = d := by
  apply BitVec.eq_of_getLsbD_eq
  intro i hi
  simp only [dField, mkWord, BitVec.getLsbD_extractLsb', BitVec.getLsbD_append]
  simp [hi]

/-- The encoded word of an instruction holds its operation code, its `S` bit, `Z = 000` and its data byte. -/
def EncodedFields.Statement (i : Instr) : Prop :=
  opField (encode i).word = i.opcode ∧ sField (encode i).word = i.sBit ∧ zField (encode i).word = 0#3 ∧
    dField (encode i).word = i.dByte

theorem encodedFields (i : Instr) : EncodedFields.Statement i :=
  ⟨opField_mkWord _ _ _, sField_mkWord _ _ _, zField_mkWord _ _ _, dField_mkWord _ _ _⟩

theorem EncodedFields.rbPush (inst : Inst) (d : Byte) : Statement (.rbPush inst d) := encodedFields _
theorem EncodedFields.rbPop (inst : Inst) : Statement (.rbPop inst) := encodedFields _
theorem EncodedFields.rbEmpty (inst : Inst) : Statement (.rbEmpty inst) := encodedFields _
theorem EncodedFields.rbFull (inst : Inst) : Statement (.rbFull inst) := encodedFields _
theorem EncodedFields.prime : Statement .prime := encodedFields _
theorem EncodedFields.putc (d : Byte) : Statement (.putc d) := encodedFields _
theorem EncodedFields.puts (p : Buffer) : Statement (.puts p) := encodedFields _
theorem EncodedFields.write (p : Buffer) : Statement (.write p) := encodedFields _
theorem EncodedFields.getc : Statement .getc := encodedFields _
theorem EncodedFields.readable : Statement .readable := encodedFields _
theorem EncodedFields.sync : Statement .sync := encodedFields _
theorem EncodedFields.ctor (b : Bool) : Statement (.ctor b) := encodedFields _
theorem EncodedFields.dtor : Statement .dtor := encodedFields _
theorem EncodedFields.txisr : Statement .txisr := encodedFields _
theorem EncodedFields.rxisr : Statement .rxisr := encodedFields _

end Sys2Proof.Laws
end

