-- ==== Sys2Proof/Tests/Slice0.lean ====
section
/-! SUPPORT. Checks of the model against the spec's own encodings, examples and vectors (spec/95_test_vectors.md, named in each
comment), and for every obligation with hypotheses a witness that meets them. -/

namespace Sys2Proof.Tests

open Sys2Proof.Machine

/-! ## Small states -/

/-- The parameters of the vectors: `C_TX = C_RX = 4`, `LEN_MAX` at its default (95, Conventions). -/
def cfg4 : Config := { cTx := ⟨4, by decide⟩, cRx := ⟨4, by decide⟩, lenMax := 2 ^ 32 - 1, term := 0x0A#8,
                       txReadyMayFall := false }

/-- A ring of capacity 4 holding these bytes from slot 0. -/
def ringOf (l : List Byte) : Machine.Ring 8 :=
  { store := (List.range l.length).zip l, rd := 0, wr := l.length % 4, count := l.length }

/-- The hardware ready or busy, with no byte received. -/
def uart (ready : Bool) : Uart := { txReady := ready, rxReady := false, rxData := none, txWire := [], rxLog := [] }

/-- Power-on with the vectors' parameters. -/
def off (fg : FgState) : State := { State.reset with cfg := cfg4, u := uart true, fg := fg }

/-- A constructed, non-blocking port, TXIE as given. -/
def port (tx rx : List Byte) (txie : Bool) (fg : FgState) : State :=
  { off fg with life := true, cfgBof := some false, rxie := true, txie := txie, tx := some (ringOf tx),
                rx := some (ringOf rx) }

/-- The next state, if there is one. -/
def nextOf (o : Host.Outcome State Fault Refusal) : Option State :=
  match o with
  | .next s => some s
  | .fault _ => none
  | .refused _ => none

/-- FG about to run label `L0` of a command. -/
abbrev l0 (i : Instr) : FgState := .busy i .l0 0

/-! ## Memory, well-formedness, decoding -/

theorem test_storage_is_cells : Memory 8 = List Host.Cell := rfl

theorem test_wf_puts_too_long : (Instr.puts (.bytes [1#8, 2#8])).wf 1 = false := by decide
theorem test_wf_write_too_long : (Instr.write (.bytes [1#8, 2#8])).wf 1 = false := by decide
theorem test_wf_write_at_bound : (Instr.write (.bytes [1#8, 2#8])).wf 2 = true := by decide

-- One word per row of R73, written from its format in R71.
theorem test_decode_rbPush : decode 9 0b0001100001000001#16 .none = .ok (.rbPush .rx 0x41#8) := by decide
theorem test_decode_rbPop : decode 9 0b0010000000000000#16 .none = .ok (.rbPop .tx) := by decide
theorem test_decode_rbEmpty : decode 9 0b0011100000000000#16 .none = .ok (.rbEmpty .rx) := by decide
theorem test_decode_rbFull : decode 9 0b0100000000000000#16 .none = .ok (.rbFull .tx) := by decide
theorem test_decode_prime : decode 9 0b0101000000000000#16 .none = .ok .prime := by decide
theorem test_decode_putc : decode 9 0b0110000010000001#16 .none = .ok (.putc 0x81#8) := by decide
theorem test_decode_puts : decode 9 0b0111000000000000#16 (.bytes [0x41#8, 0x42#8]) =
    .ok (.puts (.bytes [0x41#8, 0x42#8])) := by decide
theorem test_decode_write : decode 9 0b1000000000000000#16 .null = .ok (.write .null) := by decide
theorem test_decode_getc : decode 9 0b1001000000000000#16 .none = .ok .getc := by decide
theorem test_decode_readable : decode 9 0b1010000000000000#16 .none = .ok .readable := by decide
theorem test_decode_sync : decode 9 0b1011000000000000#16 .none = .ok .sync := by decide
theorem test_decode_ctor : decode 9 0b1100000000000001#16 .none = .ok (.ctor true) := by decide
theorem test_decode_dtor : decode 9 0b1101000000000000#16 .none = .ok .dtor := by decide
theorem test_decode_txisr : decodeRow 9 0b1110000000000000#16 .none = some .txisr := by decide
theorem test_decode_rxisr : decodeRow 9 0b1111000000000000#16 .none = some .rxisr := by decide

-- The reserved encodings: vectors E1, E2, E5, E8, E12, E17, E19, E26, E28.
theorem test_illegal_op_zero : decode 9 0x0000#16 .none = .error .opZero := by decide
theorem test_illegal_z : decode 9 0x1141#16 .none = .error .zNonzero := by decide
theorem test_illegal_payload : decode 9 0x1041#16 .null = .error .payloadKind := by decide
theorem test_illegal_d : decode 9 0x2801#16 .none = .error .dNonzero := by decide
theorem test_illegal_s : decode 9 0x5800#16 .none = .error .sOutsideRbGroup := by decide
theorem test_illegal_no_payload : decode 9 0x7000#16 .none = .error .payloadKind := by decide
theorem test_illegal_too_long : decode 1 0x8000#16 (.bytes [1#8, 2#8]) = .error .payloadTooLong := by decide
theorem test_illegal_ctor_operand : decode 9 0xC002#16 .none = .error .dNonzero := by decide
theorem test_illegal_entry_code : decode 9 0xE000#16 .none = .error .entryCode := by decide
theorem test_one_byte_is_no_word : decodeBytes 9 [0x41#8] .none = .error .wrongLength := by decide
theorem test_low_byte_first : decodeBytes 9 [0x41#8, 0x60#8] .none = .ok (.putc 0x41#8) := by decide

-- R80, R81 and the listings of programs P3, P4 and P7.
theorem test_assemble_puts : assemble "PUTS \"AB\"" =
    some { word := 0x7000#16, payload := .bytes [0x41#8, 0x42#8] } := by decide
theorem test_assemble_write : assemble "WRITE [1, 0x2, 'A'] ; block" =
    some { word := 0x8000#16, payload := .bytes [1#8, 2#8, 0x41#8] } := by decide
theorem test_assemble_rbPush : assemble "RB.PUSH  rx, 0x42" =
    some { word := 0x1842#16, payload := .none } := by decide
theorem test_assemble_ctor : assemble "CTOR bof=1" = some { word := 0xC001#16, payload := .none } := by decide

/-! ## Fetching -/

-- The first instruction after reset is the word placed there (R79).
theorem test_fetch_putc :
    (nextOf (step (State.reset.withFetchWord 16 0x6041))).map State.fg = some (l0 (.putc 0x41#8)) := by decide
theorem test_fetch_txisr :
    (nextOf (step (State.reset.withFetchWord 16 0xE000))).map State.active = some true := by decide
theorem test_table_word : decodeTableWord 16 0x2800 = some (.rbPop .rx) := by decide

/-! ## One step of each instruction -/

-- RC1, the example of R107.
theorem test_rbPush : (nextOf (exec (.rbPush .tx 0x41#8) (port [] [] false (l0 (.rbPush .tx 0x41#8))))).map
    (fun t => (t.tx, t.results, t.cpc, t.txie)) =
    some (some { store := [(0, 0x41#8)], rd := 0, wr := 1, count := 1 }, [.none], 1, false) := by decide
-- RB2 and RC2: a push on a full instance discards the oldest.
theorem test_rbPush_full : (nextOf (exec (.rbPush .tx 0x14#8)
    (port [0x10#8, 0x11#8, 0x12#8, 0x13#8] [] false (l0 (.rbPush .tx 0x14#8))))).map State.tx =
    some (some { store := [(0, 0x14#8), (1, 0x11#8), (2, 0x12#8), (3, 0x13#8)], rd := 1, wr := 1, count := 4 }) := by
  decide
-- RC5.
theorem test_rbPop : (nextOf (exec (.rbPop .rx) (port [] [0x31#8, 0x32#8] false (l0 (.rbPop .rx))))).map
    (fun t => (t.results, t.rx.map Ring.rd, t.rx.map Ring.count)) =
    some ([.opt (some 0x31#8)], some 1, some 1) := by decide
-- B3.
theorem test_rbPop_role : (nextOf (exec (.rbPop .tx) (port [] [] false (l0 (.rbPop .tx))))).map
    (fun t => (t.fault, t.results)) = some (2#3, []) := by decide
-- The example of R109.
theorem test_rbEmpty : (nextOf (exec (.rbEmpty .tx) (port [] [] false (l0 (.rbEmpty .tx))))).map State.results =
    some [.bool true] := by decide
-- RC3.
theorem test_rbFull : (nextOf (exec (.rbFull .tx) (port [1#8, 2#8, 3#8, 4#8] [] false (l0 (.rbFull .tx))))).map
    State.results = some [.bool true] := by decide
-- PR4: the hardware busy at P0.
theorem test_prime_busy : (nextOf (exec .prime { port [0x41#8] [] false (.busy .prime .p0 0) with u := uart false })).map
    (fun t => (t.fg, t.txie)) = some (.busy .prime .k1 0, false) := by decide
-- PR3: the first iteration of P2, draw false.
theorem test_prime_drain :
    (nextOf (exec .prime { port [0x41#8, 0x42#8] [] false (.busy .prime .p2 0) with draws := [false] })).map
      (fun t => (t.u.txWire, t.u.txReady, t.fg)) = some ([0x41#8], false, .busy .prime .p2 0) := by decide
-- PC2: 0x00 is an ordinary byte.
theorem test_putc : (nextOf (exec (.putc 0#8) (port [] [] false (.busy (.putc 0#8) .w1 0)))).map
    (fun t => (t.tx.map Ring.store, t.fg)) = some (some [(0, 0#8)], .busy (.putc 0#8) .p0 1) := by decide
-- Program P4: a blocking write onto a full `tx` holds.
theorem test_putc_holds :
    (nextOf (exec (.putc 9#8) { port [1#8, 2#8, 3#8, 4#8] [] false (.busy (.putc 9#8) .w1 0) with
      cfgBof := some true })).map (fun t => (t.fg, t.tx.map Ring.count)) =
    some (.busy (.putc 9#8) .w1 0, some 4) := by decide
-- U1.
theorem test_puts_null : (nextOf (exec (.puts .null) (port [] [] false (l0 (.puts .null))))).map
    (fun t => (t.results, t.fg)) = some ([.count 0], .idle) := by decide
-- U3: the third byte sent is the terminator, and the result counts it.
theorem test_puts_body : putsBytes 0x0A#8 [0x41#8, 0x00#8, 0x42#8] = [0x41#8, 0x0A#8] ∧
    putsResult [0x41#8, 0x00#8, 0x42#8] = .count 2 := by decide
-- W2.
theorem test_write_empty : (nextOf (exec (.write (.bytes [])) (port [0x41#8] [] false (l0 (.write (.bytes [])))))).map
    (fun t => (t.results, t.tx.map Ring.count)) = some ([.count 0], some 1) := by decide
-- W3: the first byte of the block is pushed and W1 is next.
theorem test_write_step : (nextOf (exec (.write (.bytes [0#8, 0x41#8]))
    (port [] [] false (.busy (.write (.bytes [0#8, 0x41#8])) .w1 0)))).map State.fg =
    some (.busy (.write (.bytes [0#8, 0x41#8])) .w1 1) := by decide
-- G2.
theorem test_getc : (nextOf (exec .getc (port [] [0#8] false (l0 .getc)))).map
    (fun t => (t.results, t.rx.map Ring.count)) = some ([.byte 0#8], some 0) := by decide
-- B5.
theorem test_getc_empty : (nextOf (exec .getc (port [] [] false (l0 .getc)))).map
    (fun t => (t.fault, t.cpc, t.fg)) = some (3#3, 0, l0 .getc) := by decide
-- Q2.
theorem test_readable : (nextOf (exec .readable (port [] [0x31#8] false (l0 .readable)))).map State.results =
    some [.bool true] := by decide
-- Y2 and Y1.
theorem test_sync_holds : (nextOf (exec .sync (port [0x42#8] [] true (.busy .sync .s1 0)))).map
    (fun t => (t.fg, t.results)) = some (.busy .sync .s1 0, []) := by decide
theorem test_sync_returns : (nextOf (exec .sync (port [] [] false (.busy .sync .s1 0)))).map State.results =
    some [.none] := by decide
-- C1.
theorem test_ctor : (nextOf (exec (.ctor true) (off (l0 (.ctor true))))).map
    (fun t => (t.life, t.cfgBof, t.rxie, t.cpc)) = some (true, some true, true, 1) := by decide
-- C2.
theorem test_ctor_again : (nextOf (exec (.ctor false) (port [] [] false (l0 (.ctor false))))).map State.fault =
    some 4#3 := by decide
-- C4.
theorem test_dtor : (nextOf (exec .dtor (port [0x41#8] [] false (l0 .dtor)))).map
    (fun t => (t.life, t.tx, t.cfgBof, t.u.txWire)) = some (false, none, none, []) := by decide
-- T2: `tx` empty.
theorem test_txisr_empty : (nextOf (exec .txisr { port [] [] true .idle with active := true })).map
    (fun t => (t.txie, t.active)) = some (false, false) := by decide
-- T1: the first iteration, draw false.
theorem test_txisr_write :
    (nextOf (exec .txisr { port [0x42#8, 0x43#8] [] true .idle with active := true, draws := [false] })).map
      (fun t => (t.u.txWire, t.u.txReady, t.active)) = some ([0x42#8], false, true) := by decide
-- X1.
theorem test_rxisr :
    (nextOf (exec .rxisr { port [] [] false .idle with
      u := { uart true with rxReady := true, rxData := some 0x31#8 } })).map
      (fun t => (t.slot .rx 0, t.rx.map Ring.count, t.u.rxReady)) = some (some 0x31#8, some 1, false) := by decide

/-! ## Witnesses: every obligation's hypotheses can be met -/

theorem may_at {s : State} {i : Instr} {l : Label} {n : Nat} (h : s.fgMayStep = true) (hf : s.fg = .busy i l n) :
    s.At i l n := ⟨h, hf⟩

theorem legal_empty : (ringOf []).Legal 4 :=
  ⟨by decide, by decide, by decide, by decide, by decide, by decide, by decide⟩

theorem legal_two : (ringOf [1#8, 2#8]).Legal 4 :=
  ⟨by decide, by decide, by decide, by decide, by decide, by decide, by decide⟩

theorem legal_full : (ringOf [1#8, 2#8, 3#8, 4#8]).Legal 4 :=
  ⟨by decide, by decide, by decide, by decide, by decide, by decide, by decide⟩

theorem holds_empty : (ringOf []).Holds 4 [] := ⟨rfl, by simp⟩

theorem holds_two : (ringOf [1#8, 2#8]).Holds 4 [1#8, 2#8] := by
  refine ⟨rfl, fun k v h => ?_⟩
  rcases k with _ | _ | k
  · rw [show v = 1#8 by simpa using h.symm]; rfl
  · rw [show v = 2#8 by simpa using h.symm]; rfl
  · simp at h

/-- The ports of the witnesses satisfy the invariant when their rings and `fg.state` are legal. -/
theorem port_inv {tx rx : List Byte} {txie : Bool} {fg : FgState} (htx : (ringOf tx).Legal 4)
    (hrx : (ringOf rx).Legal 4) (hf : (port tx rx txie fg).FgLegal) : (port tx rx txie fg).Inv where
  txLegal := fun _ h => Option.some.inj h ▸ htx
  rxLegal := fun _ h => Option.some.inj h ▸ hrx
  txLife := rfl
  rxLife := rfl
  bofLife := rfl
  txieLife := fun _ => rfl
  rxieLife := rfl
  activeTxie := fun h => absurd h (by decide : (false : Bool) ≠ true)
  faultCode := Nat.zero_le 5
  fgLegal := hf
  counts := by simp [port, off, State.reset]

theorem idle_off_inv : (port [1#8, 2#8] [] false .idle).Inv := port_inv legal_two legal_empty trivial

theorem idle_inv : (port [1#8, 2#8] [1#8, 2#8] true .idle).Inv := port_inv legal_two legal_two trivial

theorem busy_inv {tx rx : List Byte} {txie : Bool} {i : Instr} {l : Label} {n : Nat} (htx : (ringOf tx).Legal 4)
    (hrx : (ringOf rx).Legal 4)
    (hf : i.wf cfg4.lenMax = true ∧ i.issuedBy = .port ∧ i.hasLabel cfg4 l = true ∧ (l ≠ .l0 → true = true) ∧
      (l = .p2 ∨ l = .p3 → txie = false ∧ false = false) ∧ (l = .w1 → n < (i.sends cfg4).length)) :
    (port tx rx txie (.busy i l n)).Inv := port_inv htx hrx hf

/-- Other values of CFG.BOF, the UART, the draws, the schedule and the program keep a state legal. -/
theorem inv_inputs {s : State} (h : s.Inv) {b : Bool} (hb : s.life = true) (u : Uart) (ds : List Bool)
    (ms : List Move) (cs : List Command) :
    ({ s with cfgBof := some b, u := u, draws := ds, sched := ms, prog := cs } : State).Inv where
  txLegal := h.txLegal
  rxLegal := h.rxLegal
  txLife := h.txLife
  rxLife := h.rxLife
  bofLife := by simp [hb]
  txieLife := h.txieLife
  rxieLife := h.rxieLife
  activeTxie := h.activeTxie
  faultCode := h.faultCode
  fgLegal := h.fgLegal
  counts := h.counts

/-- ACTIVE = 1 with FG IDLE and TXIE = 1 is legal. -/
theorem inv_active {s : State} (h : s.Inv) (ht : s.txie = true) (hf : s.fg = .idle) :
    ({ s with active := true } : State).Inv where
  txLegal := h.txLegal
  rxLegal := h.rxLegal
  txLife := h.txLife
  rxLife := h.rxLife
  bofLife := h.bofLife
  txieLife := h.txieLife
  rxieLife := h.rxieLife
  activeTxie := fun _ => ht
  faultCode := h.faultCode
  fgLegal := by simp [State.FgLegal, hf]
  counts := h.counts

theorem witness_PortDecodeReadsEncoding :
    (Instr.puts (.bytes [1#8])).wf 1 = true ∧ (Instr.puts (.bytes [1#8])).issuedBy = .port := by decide

theorem witness_DecodedCommandIsItsEncoding : ∃ i, decode 9 0x1041#16 .none = .ok i := ⟨_, rfl⟩

theorem witness_IllegalCommandsAreRefused :
    let s : State := { off .idle with prog := [{ word := 0#16, payload := .none }] }
    s.fgMayStep = true ∧ s.fg = .idle ∧ s.presented = some { word := 0#16, payload := .none } ∧
      decode s.cfg.lenMax 0#16 .none = .error .opZero := ⟨rfl, rfl, rfl, by decide⟩

theorem witness_PseudoInstructionsExpand : "AB".toList.mapM asciiOf = some [0x41#8, 0x42#8] := by decide

theorem witness_PushOverwritesOldest :
    ((ringOf [1#8, 2#8, 3#8, 4#8]).wr < 4 ∧ (ringOf [1#8, 2#8, 3#8, 4#8]).count = 4 ∧
      (ringOf [1#8, 2#8, 3#8, 4#8]).Legal 4) ∧
    (ringOf [1#8, 2#8]).wr < 4 ∧ (ringOf [1#8, 2#8]).count ≠ 4 :=
  ⟨⟨by decide, by decide, legal_full⟩, by decide, by decide⟩

theorem witness_PopTakesOldest :
    (ringOf []).count = 0 ∧ (ringOf [1#8, 2#8]).count ≠ 0 ∧ (ringOf [1#8, 2#8]).rd < 4 ∧
      (ringOf [1#8, 2#8]).store.read (ringOf [1#8, 2#8]).rd = some 1#8 := by decide

theorem witness_NeverFullAndEmpty : 1 ≤ 1 := Nat.le_refl 1

theorem witness_LastPushesArePoppedInOrder :
    ((ringOf []).Legal 4 ∧ (ringOf []).count = 0 ∧ (ringOf []).Holds 4 []) ∧
    (ringOf [1#8, 2#8]).Legal 4 ∧ (ringOf [1#8, 2#8]).Holds 4 [1#8, 2#8] :=
  ⟨⟨legal_empty, rfl, holds_empty⟩, legal_two, holds_two⟩

/-- One step from a legal state: TX_RISE. -/
theorem witness_StepKeepsInvariant :
    ∃ s t : State, s.Inv ∧ step s = .next t :=
  ⟨{ port [1#8, 2#8] [1#8, 2#8] true .idle with cfgBof := some false, sched := [.env .txRise] }, _,
    inv_inputs idle_inv rfl _ _ _ _, rfl⟩

theorem witness_LegalStatesAlwaysStep : ∃ s : State, s.Inv := ⟨_, idle_inv⟩

theorem witness_InternalFaultIsUnreached : ∃ s t : State, s.Inv ∧ s.UartSound ∧ step s = .next t :=
  ⟨{ port [1#8, 2#8] [1#8, 2#8] true .idle with cfgBof := some false, sched := [.env .txRise] }, _,
    inv_inputs idle_inv rfl _ _ _ _, ⟨by decide, by decide⟩, rfl⟩

theorem witness_ReadyWithoutByteRecordsInternal :
    let s : State := { port [] [] false .idle with u := { uart true with rxReady := true } }
    s.rxServiceEnabled = true ∧ s.u.rxData = none := ⟨rfl, rfl⟩

theorem witness_RegistersHoldLegalValues :
    (port [1#8, 2#8] [1#8, 2#8] true .idle).Inv ∧
      (port [1#8, 2#8] [1#8, 2#8] true .idle).regValue .txWr = some 2 ∧
      (port [1#8, 2#8] [1#8, 2#8] true .idle).regValue .cfgBof = some 0 := ⟨idle_inv, rfl, rfl⟩

theorem witness_StepRunsScheduledMove :
    let s : State := { port [] [] false (l0 .getc) with sched := [.fg] }
    let q : State := { off .idle with sched := [.fg], prog := [{ word := 0xC000#16, payload := .none }] }
    (s.sched = .fg :: [] ∧ s.fgMayStep = true ∧ s.fg = .busy .getc .l0 0) ∧
    (q.sched = .fg :: [] ∧ q.fgMayStep = true ∧ q.fg = .idle ∧
      q.presented = some { word := 0xC000#16, payload := .none } ∧
      decode q.cfg.lenMax 0xC000#16 .none = .ok (.ctor false) ∧
      decodeBytes q.cfg.lenMax (bytesOfWord 0xC000#16) .none = .ok (.ctor false)) ∧
    (∃ t : State, t.sched = .txi :: []) ∧ (∃ t : State, t.sched = .rxi :: []) ∧
    (∃ t : State, t.sched = .env .txRise :: []) ∧ ∃ t : State, t.sched = [] :=
  ⟨⟨rfl, rfl, rfl⟩, ⟨rfl, rfl, rfl, rfl, by decide, by decide⟩, ⟨{ off .idle with sched := [.txi] }, rfl⟩,
    ⟨{ off .idle with sched := [.rxi] }, rfl⟩, ⟨{ off .idle with sched := [.env .txRise] }, rfl⟩, ⟨off .idle, rfl⟩⟩

theorem witness_StartStep :
    (∃ s : State, s.fg = .idle ∧ s.active = true) ∧ (∃ s : State, s.fg = .idle ∧ s.fault ≠ 0#3) ∧
    (∃ s : State, s.fg = .idle ∧ s.prog.length ≤ s.cpc) ∧
    (∃ (s : State) (c : Command) (e : Illegal), s.fg = .idle ∧ s.active = false ∧ s.fault = 0#3 ∧
      s.prog[s.cpc]? = some c ∧ decode s.cfg.lenMax c.word c.payload = .error e) ∧
    ∃ (s : State) (c : Command) (i : Instr), s.fg = .idle ∧ s.active = false ∧ s.fault = 0#3 ∧
      s.prog[s.cpc]? = some c ∧ decode s.cfg.lenMax c.word c.payload = .ok i :=
  ⟨⟨{ off .idle with active := true }, rfl, rfl⟩, ⟨{ off .idle with fault := 3#3 }, rfl, by decide⟩,
    ⟨off .idle, rfl, Nat.le_refl 0⟩,
    ⟨{ off .idle with prog := [{ word := 0#16, payload := .none }] }, { word := 0#16, payload := .none }, .opZero,
      rfl, rfl, rfl, rfl, by decide⟩,
    ⟨{ off .idle with prog := [{ word := 0xC000#16, payload := .none }] }, { word := 0xC000#16, payload := .none },
      .ctor false, rfl, rfl, rfl, rfl, by decide⟩⟩

theorem witness_FaultIsPreciseAndHalts :
    (off .idle).fault = 0#3 ∧ ({ off .idle with fault := 3#3 } : State).fault ≠ 0#3 ∧ Move.agent .fg ≠ .env := by
  decide

theorem witness_LifecycleFault :
    ((off (l0 .getc)).At .getc .l0 0 ∧ Instr.getc.issuedBy = .port ∧ (∀ b, Instr.getc ≠ .ctor b) ∧
      (off (l0 .getc)).life = false) ∧
    (port [] [] false (l0 (.ctor true))).At (.ctor true) .l0 0 ∧
      (port [] [] false (l0 (.ctor true))).life = true :=
  ⟨⟨may_at rfl rfl, rfl, by decide, rfl⟩, may_at rfl rfl, rfl⟩

theorem witness_RbPushStoresByte :
    ((off (l0 (.rbPush .tx 1#8))).At (.rbPush .tx 1#8) .l0 0 ∧ (off (l0 (.rbPush .tx 1#8))).life = false) ∧
    ((port [] [] false (l0 (.rbPush .rx 1#8))).At (.rbPush .rx 1#8) .l0 0) ∧
    (port [] [] false (l0 (.rbPush .tx 1#8))).At (.rbPush .tx 1#8) .l0 0 ∧
      (port [] [] false (l0 (.rbPush .tx 1#8))).tx = some (ringOf []) ∧ (ringOf []).wr < 4 :=
  ⟨⟨may_at rfl rfl, rfl⟩, may_at rfl rfl, may_at rfl rfl, rfl, by decide⟩

theorem witness_RbPopTakesByte :
    ((off (l0 (.rbPop .rx))).At (.rbPop .rx) .l0 0 ∧ (off (l0 (.rbPop .rx))).life = false) ∧
    ((port [] [] false (l0 (.rbPop .tx))).At (.rbPop .tx) .l0 0) ∧
    ((port [] [] false (l0 (.rbPop .rx))).At (.rbPop .rx) .l0 0 ∧ (ringOf []).count = 0) ∧
    (port [] [1#8, 2#8] false (l0 (.rbPop .rx))).At (.rbPop .rx) .l0 0 ∧ (ringOf [1#8, 2#8]).count ≠ 0 ∧
      (ringOf [1#8, 2#8]).rd < 4 ∧ (ringOf [1#8, 2#8]).store.read 0 = some 1#8 :=
  ⟨⟨may_at rfl rfl, rfl⟩, may_at rfl rfl, ⟨may_at rfl rfl, rfl⟩, may_at rfl rfl, by decide, by decide, by decide⟩

theorem witness_QueriesAnswer :
    ((off (l0 .readable)).At .readable .l0 0 ∧ (off (l0 .readable)).life = false) ∧
    (off (l0 (.rbEmpty .tx))).At (.rbEmpty .tx) .l0 0 ∧ (off (l0 (.rbFull .tx))).At (.rbFull .tx) .l0 0 ∧
    ((port [] [] false (l0 (.rbEmpty .tx))).At (.rbEmpty .tx) .l0 0 ∧
      (port [] [] false (l0 (.rbEmpty .tx))).instance? .tx = some (ringOf [])) ∧
    ((port [] [] false (l0 (.rbFull .rx))).At (.rbFull .rx) .l0 0 ∧
      (port [] [] false (l0 (.rbFull .rx))).instance? .rx = some (ringOf [])) ∧
    (port [] [] false (l0 .readable)).At .readable .l0 0 ∧
      (port [] [] false (l0 .readable)).rx = some (ringOf []) :=
  ⟨⟨may_at rfl rfl, rfl⟩, may_at rfl rfl, may_at rfl rfl, ⟨may_at rfl rfl, rfl⟩, ⟨may_at rfl rfl, rfl⟩,
    may_at rfl rfl, rfl⟩

theorem witness_GetcTakesByte :
    ((off (l0 .getc)).At .getc .l0 0 ∧ (off (l0 .getc)).life = false) ∧
    ((port [] [] false (l0 .getc)).At .getc .l0 0 ∧ (ringOf []).count = 0) ∧
    (port [] [1#8, 2#8] false (l0 .getc)).At .getc .l0 0 ∧ (ringOf [1#8, 2#8]).count ≠ 0 ∧
      (ringOf [1#8, 2#8]).rd < 4 ∧ (ringOf [1#8, 2#8]).store.read 0 = some 1#8 :=
  ⟨⟨may_at rfl rfl, rfl⟩, ⟨may_at rfl rfl, rfl⟩, may_at rfl rfl, by decide, by decide, by decide⟩

theorem witness_CtorConstructs :
    ((port [] [] false (l0 (.ctor true))).At (.ctor true) .l0 0 ∧ (port [] [] false (l0 (.ctor true))).life = true) ∧
    (off (l0 (.ctor true))).At (.ctor true) .l0 0 ∧ (off (l0 (.ctor true))).life = false :=
  ⟨⟨may_at rfl rfl, rfl⟩, may_at rfl rfl, rfl⟩

theorem witness_DtorTearsDown :
    ((off (l0 .dtor)).At .dtor .l0 0 ∧ (off (l0 .dtor)).life = false) ∧
    (port [1#8] [] false (l0 .dtor)).At .dtor .l0 0 ∧ (port [1#8] [] false (l0 .dtor)).life = true :=
  ⟨⟨may_at rfl rfl, rfl⟩, may_at rfl rfl, rfl⟩

theorem witness_SyncWaitsForEmpty :
    ((off (l0 .sync)).At .sync .l0 0 ∧ (off (l0 .sync)).life = false) ∧
    ((port [] [] false (l0 .sync)).At .sync .l0 0 ∧ (port [] [] false (l0 .sync)).life = true) ∧
    ((port [1#8] [] false (.busy .sync .s1 0)).At .sync .s1 0 ∧ (ringOf [1#8]).count ≠ 0) ∧
    (port [] [] false (.busy .sync .s1 0)).At .sync .s1 0 ∧ (ringOf []).count = 0 :=
  ⟨⟨may_at rfl rfl, rfl⟩, ⟨may_at rfl rfl, rfl⟩, ⟨may_at rfl rfl, by decide⟩, may_at rfl rfl, rfl⟩

theorem witness_DrainIterationMovesOneByte :
    let s : State := { port [1#8] [] false .idle with draws := [false] }
    (uart false).txReady = false ∧ ((port [] [] false .idle).u.txReady = true ∧ (ringOf []).count = 0) ∧
    (s.u.txReady = true ∧ s.tx = some (ringOf [1#8]) ∧ (ringOf [1#8]).count ≠ 0 ∧ (ringOf [1#8]).rd < 4 ∧
      (ringOf [1#8]).store.read (ringOf [1#8]).rd = some 1#8 ∧ s.draws = false :: []) ∧
    (port [1#8] [] false .idle).draws = [] :=
  ⟨rfl, ⟨rfl, rfl⟩, ⟨rfl, rfl, by decide, by decide, by decide, rfl⟩, rfl⟩

theorem witness_PrimeSequenceSteps :
    Instr.prime.hasLabel cfg4 .p0 = true ∧ (Instr.putc 1#8).hasLabel cfg4 .p0 = true ∧
    (∀ l, (port [1#8] [] false (.busy .prime l 0)).At .prime l 0) ∧ (uart false).txReady = false ∧
    (∃ t, (port [1#8] [] false (.busy .prime .p2 0)).drainIter = .ok (t, .goOn)) ∧
    (∃ t, (port [] [] false (.busy .prime .p2 0)).drainIter = .ok (t, .exit)) ∧
    ((off (l0 .prime)).At .prime .l0 0 ∧ (off (l0 .prime)).life = false) ∧
    (port [1#8] [] false (l0 .prime)).life = true :=
  ⟨by decide, by decide, fun _ => may_at rfl rfl, rfl, ⟨_, rfl⟩, ⟨_, rfl⟩, ⟨may_at rfl rfl, rfl⟩, rfl⟩

theorem witness_EnqueueLoopSteps :
    let w : Instr := .write (.bytes [1#8, 2#8])
    let s : State := { port [1#8, 2#8, 3#8, 4#8] [] false (.busy w .w1 0) with cfgBof := some true }
    w.hasLabel cfg4 .w1 = true ∧ (s.At w .w1 0 ∧ s.cfgBof = some true ∧ (ringOf [1#8, 2#8, 3#8, 4#8]).count = 4) ∧
    ((port [] [] false (.busy w .w1 1)).At w .w1 1 ∧ (port [] [] false (.busy w .w1 1)).cfgBof = some false ∧
      (ringOf []).wr < 4 ∧ (w.sends cfg4)[1]? = some 2#8) ∧
    (port [] [] false (.busy w .w9 2)).At w .w9 2 :=
  ⟨by decide, ⟨may_at rfl rfl, rfl, rfl⟩, ⟨may_at rfl rfl, rfl, by decide, rfl⟩, may_at rfl rfl⟩

theorem witness_WriteFamilyEntry :
    (Instr.puts .null).isWriteFamily = true ∧ (Instr.putc 1#8).isWriteFamily = true ∧
    ((off (l0 (.puts .null))).At (.puts .null) .l0 0 ∧ (off (l0 (.puts .null))).life = false) ∧
    ((port [] [] false (l0 (.puts .null))).At (.puts .null) .l0 0 ∧ (Instr.puts .null).sends cfg4 = []) ∧
    (port [] [] false (l0 (.putc 1#8))).At (.putc 1#8) .l0 0 ∧ (Instr.putc 1#8).sends cfg4 ≠ [] :=
  ⟨rfl, rfl, ⟨may_at rfl rfl, rfl⟩, ⟨may_at rfl rfl, rfl⟩, may_at rfl rfl, by decide⟩

theorem witness_TransmitServiceSteps :
    let s := port [1#8] [] true .idle
    (s.fault = 0#3 ∧ s.active = false ∧ s.txie = true ∧ s.u.txReady = true) ∧
    ((port [1#8] [] false .idle).active = false ∧ (port [1#8] [] false .idle).txie = false) ∧
    (∃ t, ({ s with active := true } : State).drainIter = .ok (t, .goOn)) ∧
    ∃ t, ({ port [] [] true .idle with active := true } : State).drainIter = .ok (t, .exit) :=
  ⟨⟨rfl, rfl, rfl, rfl⟩, ⟨rfl, rfl⟩, ⟨_, rfl⟩, ⟨_, rfl⟩⟩

theorem witness_ReceiveServiceStep :
    let s : State := { port [] [] false .idle with u := { uart true with rxReady := true, rxData := some 1#8 } }
    (s.fault = 0#3 ∧ s.active = false ∧ s.rxie = true ∧ s.u.rxReady = true ∧ s.u.rxData = some 1#8 ∧
      s.rx = some (ringOf []) ∧ (ringOf []).wr < 4) ∧ (port [] [] false .idle).u.rxReady = false :=
  ⟨⟨rfl, rfl, rfl, rfl, rfl, rfl, by decide⟩, rfl⟩

theorem witness_EnvironmentSteps :
    ({ cfg4 with txReadyMayFall := true } : Config).txReadyMayFall = true ∧ cfg4.txReadyMayFall = false := ⟨rfl, rfl⟩

theorem witness_NonBlockingWriteCompletes :
    let s := port [1#8, 2#8] [] false (l0 (.write (.bytes [5#8])))
    s.Inv ∧ s.At (.write (.bytes [5#8])) .l0 0 ∧ (Instr.write (.bytes [5#8])).isWriteFamily = true ∧
      s.life = true ∧ s.cfgBof = some false :=
  ⟨busy_inv legal_two legal_empty (by decide), may_at rfl rfl, rfl, rfl, rfl⟩

theorem witness_PrimeSendsEverythingInOrder :
    let s : State := { port [1#8, 2#8] [] false (l0 .prime) with cfgBof := some false, draws := [true, true] }
    s.Inv ∧ s.At .prime .l0 0 ∧ s.life = true ∧ s.tx = some (ringOf [1#8, 2#8]) ∧
      (ringOf [1#8, 2#8]).Holds 4 [1#8, 2#8] ∧ s.u.txReady = true ∧ s.draws = List.replicate 2 true ++ [] :=
  ⟨inv_inputs (busy_inv legal_two legal_empty (by decide)) rfl _ _ _ _, may_at rfl rfl, rfl, rfl, holds_two, rfl, rfl⟩

theorem witness_DrainLoopsEnd :
    (∃ s : State, s.Inv ∧ s.fault = 0#3 ∧ s.active = true ∧ s.tx = some (ringOf [1#8, 2#8])) ∧
    (∃ s : State, s.Inv ∧ s.At .prime .p2 0 ∧ s.tx = some (ringOf [1#8, 2#8])) ∧
    ∃ s t : State, s.Inv ∧ s.active = true ∧ s.tx = some (ringOf [1#8, 2#8]) ∧ step s = .next t :=
  ⟨⟨_, inv_active idle_inv rfl rfl, rfl, rfl, rfl⟩,
    ⟨port [1#8, 2#8] [] false (.busy .prime .p2 0), busy_inv legal_two legal_empty (by decide), may_at rfl rfl, rfl⟩,
    ⟨_, _, inv_active (inv_inputs idle_inv (b := false) rfl (uart true) [] [.txi] []) rfl rfl, rfl, rfl, rfl⟩⟩

/-- One witness for each command of the write family; the last overruns `tx`. -/
theorem witness_OverrunKeepsLastBytes :
    ∀ i ∈ [Instr.putc 5#8, .puts (.bytes []), .write (.bytes [5#8, 6#8, 7#8])],
      let s : State := { port [1#8, 2#8] [] false (l0 i) with cfgBof := some false, u := uart false }
      s.Inv ∧ i.isWriteFamily = true ∧ i.sends s.cfg ≠ [] ∧ s.At i .l0 0 ∧ s.life = true ∧ s.cfgBof = some false ∧
        s.tx = some (ringOf [1#8, 2#8]) ∧ (ringOf [1#8, 2#8]).Holds 4 [1#8, 2#8] ∧ s.u.txReady = false := by
  intro i hi
  have hf : i.wf cfg4.lenMax = true ∧ i.issuedBy = .port ∧ i.hasLabel cfg4 .l0 = true ∧ i.isWriteFamily = true ∧
      i.sends cfg4 ≠ [] := by
    revert i; decide
  exact ⟨inv_inputs (busy_inv legal_two legal_empty ⟨hf.1, hf.2.1, hf.2.2.1, by simp, by simp, by simp⟩) rfl _ _ _ _,
    hf.2.2.2.1, hf.2.2.2.2, may_at rfl rfl, rfl, rfl, rfl, holds_two, rfl⟩

theorem witness_TxieChangesOnlyByTheTable :
    (∃ s t : State, step s = .next t ∧ s.txie = false ∧ t.txie = true) ∧
    (∃ s t : State, step s = .next t ∧ s.takeMove.1 = .fg ∧ s.txie = true ∧ t.txie = false) ∧
    ∃ s t : State, step s = .next t ∧ s.takeMove.1 = .txi ∧ s.txie = true ∧ t.txie = false :=
  ⟨⟨{ port [] [] false (.busy .prime .p3 0) with sched := [.fg] }, _, rfl, rfl, rfl⟩,
    ⟨{ port [] [] true (.busy .prime .p1 0) with sched := [.fg] }, _, rfl, rfl, rfl, rfl⟩,
    ⟨{ port [] [] true .idle with sched := [.txi], active := true }, _, rfl, rfl, rfl, rfl⟩⟩

theorem witness_ConstructionBitsChangeOnlyByCtorDtor :
    (∃ s t : State, step s = .next t ∧ t.life ≠ s.life) ∧ ∃ s t : State, step s = .next t ∧ t.cfgBof ≠ s.cfgBof :=
  ⟨⟨{ off (l0 (.ctor true)) with sched := [.fg] }, _, rfl, by decide⟩,
    ⟨{ port [] [] false (l0 .dtor) with sched := [.fg] }, _, rfl, by decide⟩⟩

theorem witness_PrimeExcludesTransmitService :
    let s := port [1#8, 2#8] [] false (.busy .prime .p3 0)
    s.Inv ∧ s.fg = .busy .prime .p3 0 := ⟨busy_inv legal_two legal_empty (by decide), rfl⟩

theorem witness_OnlyDrainsWriteTheHardware :
    ∃ s t : State, s.Inv ∧ step s = .next t ∧ t.u.txWire ≠ s.u.txWire :=
  ⟨{ port [1#8, 2#8] [] false (.busy .prime .p2 0) with cfgBof := some false, sched := [.fg], draws := [true] }, _,
    inv_inputs (busy_inv legal_two legal_empty (by decide)) rfl _ _ _ _, rfl, by decide⟩

theorem witness_TransmitBytesKeepTheirOrder :
    ∃ s t : State, ∃ rb' : Machine.Ring 8, s.Inv ∧ step s = .next t ∧ s.tx = some (ringOf [1#8, 2#8]) ∧
      t.tx = some rb' ∧ (ringOf [1#8, 2#8]).Holds 4 [1#8, 2#8] :=
  ⟨{ port [1#8, 2#8] [] false (.busy .prime .p2 0) with cfgBof := some false, sched := [.fg], draws := [true] }, _, _,
    inv_inputs (busy_inv legal_two legal_empty (by decide)) rfl _ _ _ _, rfl, rfl, rfl, holds_two⟩

theorem witness_ReceivedBytesKeepTheirOrder :
    ∃ s t : State, ∃ rb' : Machine.Ring 8, s.Inv ∧ step s = .next t ∧ s.rx = some (ringOf [1#8, 2#8]) ∧
      t.rx = some rb' ∧ (ringOf [1#8, 2#8]).Holds 4 [1#8, 2#8] :=
  ⟨{ port [] [1#8, 2#8] false (l0 .getc) with cfgBof := some false, sched := [.fg] }, _, _,
    inv_inputs (busy_inv legal_empty legal_two (by decide)) rfl _ _ _ _, rfl, rfl, rfl, holds_two⟩

theorem witness_InterruptsLeaveTheForeground :
    (∃ t, exec .txisr (port [1#8] [] true .idle) = .next t) ∧ (∃ t, exec .rxisr (port [] [] false .idle) = .next t) ∧
      ({ port [] [] true .idle with active := true } : State).active = true := ⟨⟨_, rfl⟩, ⟨_, rfl⟩, rfl⟩

theorem witness_BlockedWriteNeverEnds :
    let i : Instr := .write (.bytes [7#8])
    let s : State := { port [1#8, 2#8, 3#8, 4#8] [] false (.busy i .w1 0) with cfgBof := some true, sched := [.fg] }
    s.Inv ∧ s.fg = .busy i .w1 0 ∧ s.cfgBof = some true ∧ s.tx = some (ringOf [1#8, 2#8, 3#8, 4#8]) ∧
      (ringOf [1#8, 2#8, 3#8, 4#8]).count = 4 ∧ s.txie = false ∧ ∃ t, Reaches s t ∧ t ≠ s :=
  ⟨inv_inputs (busy_inv legal_full legal_empty (by decide)) rfl _ _ _ _, rfl, rfl, rfl, rfl, rfl,
    ⟨_, .next .here rfl, fun h => absurd (congrArg State.sched h) (by decide)⟩⟩

theorem witness_StrandedBytesStay :
    (∃ s t : State, s.Inv ∧ s.fg = .busy .sync .s1 0 ∧ s.txie = false ∧ s.tx = some (ringOf [1#8, 2#8]) ∧
      (ringOf [1#8, 2#8]).count ≠ 0 ∧ Reaches s t ∧ t ≠ s) ∧
    ∃ s t : State, s.Inv ∧ s.fg = .idle ∧ s.txie = false ∧ s.takeMove.1 ≠ .fg ∧ step s = .next t :=
  ⟨⟨{ port [1#8, 2#8] [] false (.busy .sync .s1 0) with cfgBof := some false, sched := [.fg] }, _,
      inv_inputs (busy_inv legal_two legal_empty (by decide)) rfl _ _ _ _, rfl, rfl, rfl, by decide, .next .here rfl,
      fun h => absurd (congrArg State.sched h) (by decide)⟩,
    ⟨{ port [1#8, 2#8] [] false .idle with cfgBof := some false, sched := [.txi] }, _,
      inv_inputs idle_off_inv rfl _ _ _ _, rfl, rfl, by decide, rfl⟩⟩

theorem witness_QuiescentStatesAreAtRest :
    (port [] [] false .idle).quiescent = true ∧ Move.agent .txi ≠ .env := by decide

theorem witness_QueryFrame :
    (∃ t, exec .readable (port [] [] false (l0 .readable)) = .next t) ∧
    (∃ t, exec (.rbEmpty .tx) (port [] [] false (l0 (.rbEmpty .tx))) = .next t) ∧
    (∃ t, exec (.rbFull .rx) (port [] [] false (l0 (.rbFull .rx))) = .next t) ∧
    ∃ t, exec .sync (port [] [] false (.busy .sync .s1 0)) = .next t := ⟨⟨_, rfl⟩, ⟨_, rfl⟩, ⟨_, rfl⟩, ⟨_, rfl⟩⟩

theorem witness_ReadFrame :
    (∃ t, exec (.rbPop .rx) (port [] [1#8] false (l0 (.rbPop .rx))) = .next t) ∧
    ∃ t, exec .getc (port [] [1#8] false (l0 .getc)) = .next t := ⟨⟨_, rfl⟩, ⟨_, rfl⟩⟩

theorem witness_RbPushFrame :
    ∃ t, exec (.rbPush .tx 1#8) (port [] [] false (l0 (.rbPush .tx 1#8))) = .next t ∧
      (port [] [] false (l0 (.rbPush .tx 1#8))).storeSlot .tx ≠ some 3 := ⟨_, rfl, by decide⟩

theorem witness_WriteFamilyFrame :
    (Instr.putc 1#8).isWriteFamily = true ∧
    (∃ t, exec (.putc 1#8) (port [] [] false (.busy (.putc 1#8) .w1 0)) = .next t) ∧
    (∃ t, exec (.putc 1#8) (port [] [] false (.busy (.putc 1#8) .p1 0)) = .next t ∧
      ∀ n, (port [] [] false (.busy (.putc 1#8) .p1 0)).fg ≠ .busy (.putc 1#8) .w1 n) :=
  ⟨rfl, ⟨_, rfl⟩, ⟨_, rfl, fun n h => by cases h⟩⟩

theorem witness_DrainFrame :
    (∃ t, exec .prime (port [1#8] [] false (.busy .prime .p2 0)) = .next t) ∧
    ∃ t, exec .txisr { port [1#8] [] true .idle with active := true } = .next t := ⟨⟨_, rfl⟩, ⟨_, rfl⟩⟩

theorem witness_RxisrFrame :
    let s : State := { port [] [] false .idle with u := { uart true with rxReady := true, rxData := some 1#8 } }
    (∃ t, exec .rxisr s = .next t) ∧ s.storeSlot .rx ≠ some 3 := ⟨⟨_, rfl⟩, by decide⟩

theorem witness_LifecycleFrame :
    (∃ t, exec (.ctor true) (off (l0 (.ctor true))) = .next t ∧ t.life ≠ (off (l0 (.ctor true))).life) ∧
    ∃ t, exec .dtor (port [1#8] [] false (l0 .dtor)) = .next t := ⟨⟨_, rfl, by decide⟩, ⟨_, rfl⟩⟩

end Sys2Proof.Tests
end

/-! SUPPORT. Proofs of the statements about spec/10_state.md: the invariant of a legal state holds at power-on and is
kept by every step, no legal state makes the model stop, the registers of R33 hold legal values, and LIFE, RXIE and CFG.BOF
change only by CTOR and DTOR. -/

namespace Sys2Proof

variable {lenMax : Nat} {i j : Instr} {cfg : Config}

/-! ## What the decoder and the syntax say of a command -/

theorem checked_eq_ok {ok : Bool} {why : Illegal} {x : Except Illegal Instr} :
    checked ok why x = .ok i ↔ ok = true ∧ x = .ok i := by
  cases ok <;> simp [checked]

theorem decodeRb_eq_ok {w : Word} {p : Payload} {f : Inst → Instr} (h : decodeRb w p f = .ok i) :
    ∃ r, i = f r := by
  simp only [decodeRb, checked_eq_ok, Except.ok.injEq] at h
  obtain ⟨-, -, rfl⟩ := h
  exact ⟨_, rfl⟩

theorem decodeN_eq_ok {w : Word} {p : Payload} (h : decodeN w p j = .ok i) : i = j := by
  simp only [decodeN, checked_eq_ok, Except.ok.injEq] at h
  obtain ⟨-, -, -, rfl⟩ := h
  rfl

theorem decodeP_eq_ok {w : Word} {p : Payload} {f : Buffer → Instr} (h : decodeP lenMax w p f = .ok i) :
    ∃ b : Buffer, b.fits lenMax = true ∧ i = f b := by
  simp only [decodeP, checked_eq_ok] at h
  obtain ⟨-, -, h⟩ := h
  cases p with
  | none => cases h
  | null => exact ⟨.null, rfl, (Except.ok.inj h).symm⟩
  | bytes l =>
    obtain ⟨hl, h⟩ := checked_eq_ok.mp h
    exact ⟨.bytes l, hl, (Except.ok.inj h).symm⟩

/-- R74, R75: the port decoder answers well-formed port commands only. -/
theorem decode_wf_port {w : Word} {p : Payload} (h : decode lenMax w p = .ok i) :
    i.wf lenMax = true ∧ i.issuedBy = .port := by
  obtain ⟨-, h⟩ := checked_eq_ok.mp h
  split at h
  -- OP 0 and the entry codes
  case h_1 | h_15 => cases h
  -- RB.PUSH, PUTC, CTOR
  case h_2 | h_7 | h_13 =>
    simp only [checked_eq_ok, Except.ok.injEq] at h
    simp only [← h, Instr.wf, Instr.issuedBy, and_self]
  -- RB.POP, RB.EMPTY, RB.FULL
  case h_3 | h_4 | h_5 =>
    obtain ⟨r, rfl⟩ := decodeRb_eq_ok h
    exact ⟨rfl, rfl⟩
  -- PUTS, WRITE
  case h_8 | h_9 =>
    obtain ⟨b, hb, rfl⟩ := decodeP_eq_ok h
    exact ⟨hb, rfl⟩
  -- format N
  case h_6 | h_10 | h_11 | h_12 | h_14 =>
    cases decodeN_eq_ok h
    exact ⟨rfl, rfl⟩

theorem Instr.continuation_eq (i : Instr) : i.continuation = .k1 ∨ i.continuation = .w9 := by
  cases i <;> simp [Instr.continuation]

theorem Instr.continuation_of_isWriteFamily (hi : i.isWriteFamily = true) : i.continuation = .w9 := by
  cases i with
  | prime => cases hi
  | _ => rfl

/-- R122: a command that runs the prime sequence has the label the sequence goes on at. -/
theorem Instr.hasLabel_continuation (h : i.hasLabel cfg .p0 = true) :
    i.hasLabel cfg i.continuation = true := by
  cases i <;> simp_all [Instr.hasLabel, Instr.continuation, Instr.isWriteFamily]

/-- R150: a command that enqueues also runs the prime sequence. -/
theorem Instr.hasLabel_p0 (h : i.hasLabel cfg .w1 = true) : i.hasLabel cfg .p0 = true :=
  Bool.or_eq_true_iff.mpr (.inr h)

/-- R30: a command that is neither PRIME nor SYNC and sends no byte has the label `L0` only. -/
theorem Instr.label_eq_l0 {l : Machine.Label} (h : i.hasLabel cfg l = true) (hp : i ≠ .prime) (hs : i ≠ .sync)
    (hb : i.sends cfg = []) : l = .l0 := by
  cases l with
  | l0 => rfl
  | _ => simp [Instr.hasLabel, hp, hs, hb] at h

/-- R30: a write-family command that sends a byte has `L0`, the enqueue labels and the prime labels. -/
theorem Instr.label_of_isWriteFamily {l : Machine.Label} (h : i.hasLabel cfg l = true)
    (hi : i.isWriteFamily = true) :
    l = .l0 ∨ l = .w1 ∨ l = .w9 ∨ l = .p0 ∨ l = .p1 ∨ l = .p2 ∨ l = .p3 := by
  have hp : i ≠ .prime := by rintro rfl; cases hi
  have hs : i ≠ .sync := by rintro rfl; cases hi
  cases l with
  | k1 | s1 => simp [Instr.hasLabel, hp, hs] at h
  | _ => simp

end Sys2Proof

namespace Sys2Proof.Machine

variable {w c : Nat} {s t : State} {i : Instr} {l : Label} {n : Nat}

/-! ## Legal instances (R22) -/

theorem Ring.constructed_legal (hc : 0 < c) : (Ring.constructed : Ring w).Legal c where
  canonical := List.Pairwise.nil
  inside := by simp [Ring.constructed]
  count_le := Nat.zero_le c
  rd_lt := hc
  wr_lt := hc
  wr_eq := (Nat.zero_mod c).symm
  written := fun _ hk => absurd hk (Nat.not_lt_zero _)

/-- After a store at `wr`, the unread slots and the one behind them are written. -/
theorem Ring.Legal.written_write {rb : Ring w} (h : rb.Legal c) (v : BitVec w) {k : Nat} (hk : k ≤ rb.count) :
    ((rb.store.write rb.wr v).read ((rb.rd + k) % c)).isSome := by
  by_cases e : (rb.rd + k) % c = rb.wr
  · simp [e]
  · have hne : k ≠ rb.count := fun hk => e (by rw [hk, h.wr_eq])
    rw [Memory.read_write_of_ne _ e]
    exact h.written k (by omega)

/-- R100: a push on a legal instance answers a legal instance. -/
theorem Ring.Legal.push {rb : Ring w} (h : rb.Legal c) (v : BitVec w) :
    ∃ rb', rb.push c v = .ok rb' ∧ rb'.Legal c := by
  have hc : 0 < c := Nat.zero_lt_of_lt h.rd_lt
  have hcan := Memory.write_wf h.canonical rb.wr v
  have hin := Memory.write_inside h.inside h.wr_lt v
  by_cases hf : rb.count = c
  · refine ⟨_, Ring.push_eq_ok.mpr ⟨h.wr_lt, .inl ⟨hf, rfl⟩⟩,
      ⟨hcan, hin, h.count_le, Nat.mod_lt _ hc, Nat.mod_lt _ hc, ?_, fun k hk => ?_⟩⟩
    · simp [h.wr_eq, hf]
    · simpa [Nat.add_assoc, Nat.add_comm 1] using h.written_write v (k := k + 1) hk
  · refine ⟨_, Ring.push_eq_ok.mpr ⟨h.wr_lt, .inr ⟨hf, rfl⟩⟩,
      ⟨hcan, hin, Nat.lt_of_le_of_ne h.count_le hf, h.rd_lt, Nat.mod_lt _ hc, ?_, fun k hk => ?_⟩⟩
    · simp [h.wr_eq, Nat.add_assoc]
    · exact h.written_write v (Nat.le_of_lt_succ hk)

/-- R101: a pop on a legal instance answers, leaves a legal instance, and no change when there was nothing to pop. -/
theorem Ring.Legal.pop {rb : Ring w} (h : rb.Legal c) :
    ∃ x, rb.pop c = .ok x ∧ x.2.Legal c ∧ (x.1 = none → x.2 = rb) := by
  by_cases h0 : rb.count = 0
  · exact ⟨_, Ring.pop_eq_ok.mpr (.inl ⟨h0, rfl⟩), h, fun _ => rfl⟩
  · have hc : 0 < c := Nat.zero_lt_of_lt h.rd_lt
    obtain ⟨v, hv⟩ : ∃ v, rb.store.read rb.rd = some v := by
      simpa [Nat.mod_eq_of_lt h.rd_lt, Option.isSome_iff_exists] using h.written 0 (by omega)
    refine ⟨_, Ring.pop_eq_ok.mpr (.inr ⟨h0, h.rd_lt, v, hv, rfl⟩), ?_, nofun⟩
    have hle := h.count_le
    refine ⟨h.canonical, h.inside, by simp only; omega, Nat.mod_lt _ hc, h.wr_lt, ?_, fun k hk => ?_⟩
    · rw [h.wr_eq, Nat.mod_add_mod, show rb.rd + 1 + (rb.count - 1) = rb.rd + rb.count by omega]
    · simpa [Nat.add_assoc, Nat.add_comm 1] using h.written (k + 1) (by simp only at hk; omega)

/-! ## What a micro-step answers -/

/-- The micro-step does not stop the model (log 11): it holds, raises a fault, or answers a value with `P`. -/
def Answers {α : Type} (P : α → Prop) : Except Stop α → Prop
  | .ok a => P a
  | .error .hold => True
  | .error (.raise _) => True
  | .error (.halt _) => False

theorem Answers.bind {α β : Type} {P : α → Prop} {Q : β → Prop} {x : Except Stop α} {f : α → Except Stop β}
    (hx : Answers P x) (hf : ∀ a, P a → Answers Q (f a)) : Answers Q (x >>= f) := by
  rcases x with (_ | _ | _) | a
  · trivial
  · trivial
  · exact hx.elim
  · exact hf a hx

theorem Answers.mono {α : Type} {P Q : α → Prop} {x : Except Stop α} (hx : Answers P x) (h : ∀ a, P a → Q a) :
    Answers Q x := by
  rcases x with (_ | _ | _) | a
  · trivial
  · trivial
  · exact hx
  · exact h a hx

/-- Partial correctness, of any state: what the micro-step answers, if it answers, satisfies `P`. -/
def Yields {α : Type} (P : α → Prop) : Except Stop α → Prop
  | .ok a => P a
  | .error _ => True

theorem yields_iff {α : Type} {P : α → Prop} {x : Except Stop α} : Yields P x ↔ ∀ a, x = .ok a → P a := by
  cases x <;> simp [Yields]

theorem Yields.bind {α β : Type} {P : α → Prop} {Q : β → Prop} {x : Except Stop α} {f : α → Except Stop β}
    (hx : Yields P x) (hf : ∀ a, P a → Yields Q (f a)) : Yields Q (x >>= f) := by
  cases x with
  | error _ => trivial
  | ok a => exact hf a hx

/-- What a micro-step only checks or reads before it goes on does not matter. -/
theorem Yields.after {α β : Type} {Q : β → Prop} {x : Except Stop α} {f : α → Except Stop β}
    (hf : ∀ a, Yields Q (f a)) : Yields Q (x >>= f) :=
  Yields.bind (P := fun _ => True) (yields_iff.mpr fun _ _ => trivial) fun a _ => hf a

theorem valueOf_answers {α : Type} (o : Option α) : Answers (fun a => o = some a) (valueOf o) := by
  cases o <;> trivial

theorem requireLife_answers (s : State) : Answers (fun _ => s.life = true) s.requireLife := by
  unfold State.requireLife
  split <;> trivial

theorem requireRole_answers (held : Bool) : Answers (fun _ => held = true) (requireRole held) := by
  cases held <;> trivial

theorem ringEmpty_answers (s : State) (r : Inst) : Answers (fun _ => True) (s.ringEmpty r) :=
  (valueOf_answers _).bind fun _ _ => trivial

theorem ringFull_answers (s : State) (r : Inst) : Answers (fun _ => True) (s.ringFull r) :=
  (valueOf_answers _).bind fun _ _ => trivial

theorem mustWait_answers (s : State) : Answers (fun _ => True) s.mustWait :=
  (valueOf_answers _).bind fun bof _ => by
    cases bof
    · trivial
    · exact ringFull_answers s .tx

/-! ## What each update needs to keep the invariant -/

theorem State.fgMayStep_iff : s.fgMayStep = true ↔ s.fault = 0#3 ∧ s.active = false := by
  simp [State.fgMayStep, State.noFault]

theorem State.txEntryEnabled_iff : s.txEntryEnabled = true ↔
    s.fault = 0#3 ∧ s.active = false ∧ s.txie = true ∧ s.u.txReady = true := by
  simp [State.txEntryEnabled, State.noFault, State.txRequests, and_assoc]

theorem FaultCode.bits_le (k : FaultCode) : k.bits.toNat ≤ 5 := by
  cases k <;> decide

/-- What `State.FgLegal` asks while command `i` is outstanding at label `l` with cursor `n`. -/
structure State.BusyLegal (s : State) (i : Instr) (l : Label) (n : Nat) : Prop where
  wf : i.wf s.cfg.lenMax = true
  port : i.issuedBy = .port
  label : i.hasLabel s.cfg l = true
  life : l ≠ .l0 → s.life = true
  primeOff : l = .p2 ∨ l = .p3 → s.txie = false ∧ s.active = false
  cursor : l = .w1 → n < (i.sends s.cfg).length

theorem State.fgLegal_busy (hf : s.fg = .busy i l n) : s.FgLegal ↔ s.BusyLegal i l n := by
  unfold State.FgLegal
  rw [hf]
  exact ⟨fun ⟨a, b, c, d, e, f⟩ => ⟨a, b, c, d, e, f⟩, fun ⟨a, b, c, d, e, f⟩ => ⟨a, b, c, d, e, f⟩⟩

/-- The start step of R79 makes a well-formed port command BUSY at `L0`. -/
theorem State.busyLegal_l0 (hw : i.wf s.cfg.lenMax = true) (hp : i.issuedBy = .port) : s.BusyLegal i .l0 n :=
  ⟨hw, hp, by simp [Instr.hasLabel, hp], by simp, by simp, by simp⟩

/-- R124: a legal `fg.state` stays legal as long as TXIE and ACTIVE stay 0 where both were. -/
theorem State.FgLegal.of_sameControl (h : s.FgLegal) (hfg : t.fg = s.fg) (hcfg : t.cfg = s.cfg)
    (hlife : t.life = s.life) (hoff : s.txie = false → s.active = false → t.txie = false ∧ t.active = false) :
    t.FgLegal := by
  cases hf : s.fg with
  | idle => simp [State.FgLegal, hfg, hf]
  | busy i l n =>
    have hb := (State.fgLegal_busy hf).mp h
    exact (State.fgLegal_busy (hfg.trans hf)).mpr
      ⟨hcfg ▸ hb.wf, hb.port, hcfg ▸ hb.label, hlife ▸ hb.life, fun hl => (hb.primeOff hl).elim hoff,
        hcfg ▸ hb.cursor⟩

namespace State.Inv

/-- The invariant reads neither the UART nor the model's own inputs (R226). -/
theorem of_sameBlock (h : s.Inv) (hb : s.SameBlock t) : t.Inv := by
  rw [hb]
  exact { h with }

theorem busyLegal (h : s.Inv) (hf : s.fg = .busy i l n) : s.BusyLegal i l n :=
  (State.fgLegal_busy hf).mp h.fgLegal

theorem instance_legal (h : s.Inv) {r : Inst} {rb : Ring 8} (hr : s.instance? r = some rb) :
    rb.Legal (s.capacity r) := by
  cases r
  · exact h.txLegal rb hr
  · exact h.rxLegal rb hr

theorem setInstance (h : s.Inv) {r : Inst} {rb rb' : Ring 8} (hr : s.instance? r = some rb)
    (hl : rb'.Legal (s.capacity r)) : (s.setInstance r rb').Inv := by
  cases r with
  | tx =>
    have hlife : s.life = true := by simpa [show s.tx = some rb from hr] using h.txLife.symm
    exact { h with txLegal := fun _ e => Option.some.inj e ▸ hl, txLife := hlife.symm }
  | rx =>
    have hlife : s.life = true := by simpa [show s.rx = some rb from hr] using h.rxLife.symm
    exact { h with rxLegal := fun _ e => Option.some.inj e ▸ hl, rxLife := hlife.symm }

theorem goto (h : s.Inv) (hb : s.BusyLegal i l n) : (s.goto i l n).Inv :=
  { h with fgLegal := (State.fgLegal_busy rfl).mpr { hb with } }

theorem complete (h : s.Inv) {r : Result} (hr : r.bounded s.cfg.lenMax = true) : (s.complete r).Inv :=
  { h with
    fgLegal := trivial
    counts := fun q hq => (List.mem_append.mp hq).elim (h.counts q) fun e => List.mem_singleton.mp e ▸ hr }

theorem detach (h : s.Inv) (ha : s.active = false) : (s.setTxie false).Inv :=
  { h with
    txieLife := nofun
    activeTxie := fun e => absurd (ha.symm.trans e) Bool.false_ne_true
    fgLegal := h.fgLegal.of_sameControl rfl rfl rfl fun _ ha => ⟨rfl, ha⟩ }

/-- P3 attaches the transmit handler in the step that leaves it (R122). -/
theorem attach_goto (h : s.Inv) (hlife : s.life = true) (hb : (s.setTxie true).BusyLegal i l n) :
    ((s.setTxie true).goto i l n).Inv :=
  { h with
    txieLife := fun _ => hlife
    activeTxie := fun _ => rfl
    fgLegal := (State.fgLegal_busy rfl).mpr { hb with } }

theorem txReturn (h : s.Inv) : s.txReturn.Inv :=
  { h with
    activeTxie := nofun
    fgLegal := h.fgLegal.of_sameControl rfl rfl rfl fun ht _ => ⟨ht, rfl⟩ }

theorem txEntry (h : s.Inv) (ht : s.txie = true) : s.txEntry.Inv :=
  { h with
    activeTxie := fun _ => ht
    fgLegal := h.fgLegal.of_sameControl rfl rfl rfl fun hf _ => absurd (hf.symm.trans ht) Bool.false_ne_true }

theorem raise (h : s.Inv) (k : FaultCode) : (s.raise k).Inv := by
  unfold State.raise
  split
  · exact { h with faultCode := k.bits_le }
  · exact h

/-- R241: CTOR leaves a legal port. -/
theorem construct_complete (h : s.Inv) (ha : s.active = false) (b : Bool) :
    ((s.construct b).complete .none).Inv where
  txLegal := fun _ e => Option.some.inj e ▸ Ring.constructed_legal s.cfg.cTx.pos
  rxLegal := fun _ e => Option.some.inj e ▸ Ring.constructed_legal s.cfg.cRx.pos
  txLife := rfl
  rxLife := rfl
  bofLife := rfl
  txieLife := fun _ => rfl
  rxieLife := rfl
  activeTxie := fun e => absurd (ha.symm.trans e) Bool.false_ne_true
  faultCode := h.faultCode
  fgLegal := trivial
  counts := (h.complete rfl).counts

/-- R242: DTOR leaves a legal unconstructed port. -/
theorem teardown_complete (h : s.Inv) (ha : s.active = false) : (s.teardown.complete .none).Inv where
  txLegal := nofun
  rxLegal := nofun
  txLife := rfl
  rxLife := rfl
  bofLife := rfl
  txieLife := nofun
  rxieLife := rfl
  activeTxie := fun e => absurd (ha.symm.trans e) Bool.false_ne_true
  faultCode := h.faultCode
  fgLegal := trivial
  counts := (h.complete rfl).counts

end State.Inv

/-! ## What the shared operations answer in a legal state -/

theorem State.takeMove_sameBlock (s : State) : s.SameBlock s.takeMove.2 := by
  unfold State.takeMove
  split <;> rfl

theorem State.takeDraw_sameBlock (s : State) : s.SameBlock s.takeDraw.2 := by
  unfold State.takeDraw
  split <;> rfl

theorem State.setInstance_self {r : Inst} {rb : Ring 8} (hr : s.instance? r = some rb) :
    s.setInstance r rb = s := by
  cases s
  cases r <;> cases hr <;> rfl

theorem push_answers (h : s.Inv) (r : Inst) (v : Byte) :
    Answers (fun t => t.Inv ∧ ∃ rb, t = s.setInstance r rb) (s.push r v) :=
  (valueOf_answers _).bind fun rb hr => by
    obtain ⟨rb', hp, hl⟩ := (h.instance_legal hr).push v
    rw [hp]
    exact ⟨h.setInstance hr hl, rb', rfl⟩

theorem pop_answers (h : s.Inv) (r : Inst) :
    Answers (fun x => x.2.Inv ∧ (∃ rb, x.2 = s.setInstance r rb) ∧ (x.1 = none → x.2 = s)) (s.pop r) :=
  (valueOf_answers _).bind fun rb hr => by
    obtain ⟨x, hp, hl, hn⟩ := (h.instance_legal hr).pop
    rw [hp]
    exact ⟨h.setInstance hr hl, ⟨x.2, rfl⟩,
      fun e => (congrArg (s.setInstance r) (hn e)).trans (State.setInstance_self hr)⟩

theorem uartWrite_answers (h : s.Inv) (b : Byte) :
    Answers (fun t => t.Inv ∧ t.fg = s.fg) (s.uartWrite b) := by
  unfold State.uartWrite
  split
  · exact ⟨(h.of_sameBlock s.takeDraw_sameBlock).of_sameBlock rfl, s.takeDraw_fg⟩
  · trivial

theorem uartRead_answers (h : s.Inv) : Answers (fun x => x.2.Inv) s.uartRead := by
  unfold State.uartRead
  split
  · split
    · exact h.of_sameBlock rfl
    · trivial
  · trivial

/-- R120: a drain iteration goes on in a legal state with FG where it was, or exits, at most detaching the handler. -/
theorem drainIter_answers (h : s.Inv) :
    Answers (fun x => (x.2 = .goOn ∧ x.1.Inv ∧ x.1.fg = s.fg) ∨
      (x.2 = .exit ∧ (x.1 = s ∨ x.1 = s.setTxie false))) s.drainIter := by
  unfold State.drainIter
  split
  · refine (pop_answers h .tx).bind fun ⟨o, t⟩ ⟨ht, ⟨rb, hrb⟩, hn⟩ => ?_
    cases o with
    | none => exact .inr ⟨rfl, .inr (congrArg (·.setTxie false) (hn rfl))⟩
    | some b =>
      refine (uartWrite_answers ht b).bind fun t' ⟨ht', hf⟩ => .inl ⟨rfl, ht', hf.trans ?_⟩
      exact (congrArg State.fg hrb).trans rfl
  · exact .inr ⟨rfl, .inl rfl⟩

/-! ## The port commands -/

/-- The micro-step of a port command at a label: the body its arm of `exec` gives to `State.fgStep`. -/
def portStep (i : Instr) (s : State) (l : Label) (n : Nat) : Except Stop State :=
  match i with
  | .rbPush r d => atL0 (rbPushStep r d s) l n
  | .rbPop r => atL0 (rbPopStep r s) l n
  | .rbEmpty r => atL0 (rbEmptyStep r s) l n
  | .rbFull r => atL0 (rbFullStep r s) l n
  | .prime => primeCmdStep s l n
  | .putc d => putcStep d s l n
  | .puts p => putsStep p s l n
  | .write p => writeStep p s l n
  | .getc => atL0 (getcStep s) l n
  | .readable => atL0 (readableStep s) l n
  | .sync => syncStep s l n
  | .ctor b => atL0 (ctorStep b s) l n
  | .dtor => atL0 (dtorStep s) l n
  | .txisr | .rxisr => .error (.halt .labelNotOfCommand)

theorem exec_eq_fgStep (hp : i.issuedBy = .port) (s : State) : exec i s = s.fgStep i (portStep i s) := by
  cases i with
  | txisr | rxisr => cases hp
  | _ => rfl

theorem exec_of_at (hp : i.issuedBy = .port) (hat : s.At i l n) : exec i s = s.settle (portStep i s l n) := by
  rw [exec_eq_fgStep hp, State.fgStep_of_at hat]

/-- R151 to R153, R157: PUTC, PUTS and WRITE are one rule over the bytes they send. -/
theorem portStep_writeFamily (hi : i.isWriteFamily = true) (s : State) (l : Label) (n : Nat) :
    portStep i s l n =
      if i.sends s.cfg = [] then atL0 (noOpWrite s) l n
      else if l = .l0 then enterEnqueue i s
      else enqueueStep i (i.sends s.cfg) i.writeFamilyResult l n s := by
  cases i with
  | putc d => simp [portStep, putcStep, Instr.sends, Instr.writeFamilyResult]
  | puts p => cases p <;> simp [portStep, putsStep, Instr.sends, putsBytes, Instr.writeFamilyResult]
  | write p =>
    rcases p with _ | _ | ⟨b, bs⟩ <;> simp [portStep, writeStep, Instr.sends, Instr.writeFamilyResult, writeResult]
  | _ => cases hi

theorem cStringBody_length_le (bs : List Byte) : (cStringBody bs).length ≤ bs.length := by
  induction bs with
  | nil => simp [cStringBody]
  | cons b bs ih =>
    simp only [cStringBody]
    split <;> simp [ih]

/-- R83: the COUNT a well-formed write-family command returns is bounded. -/
theorem writeFamilyResult_bounded {lenMax : Nat} (hw : i.wf lenMax = true) :
    i.writeFamilyResult.bounded lenMax = true := by
  cases i with
  | puts p =>
    cases p with
    | null => simp [Instr.writeFamilyResult, Result.bounded]
    | bytes bs =>
      have hle : bs.length ≤ lenMax := by simpa [Instr.wf, Buffer.fits] using hw
      have hbody := cStringBody_length_le bs
      simp only [Instr.writeFamilyResult, putsResult, Result.bounded, decide_eq_true_eq]
      omega
  | write p =>
    cases p with
    | null => simp [Instr.writeFamilyResult, Result.bounded]
    | bytes bs =>
      have hle : bs.length ≤ lenMax := by simpa [Instr.wf, Buffer.fits] using hw
      simp only [Instr.writeFamilyResult, Result.bounded, decide_eq_true_eq]
      omega
  | _ => rfl

theorem primeCmdStep_eq_primeStep (h0 : l ≠ .l0) (hk : l ≠ .k1) :
    primeCmdStep s l n = primeStep .prime .k1 l n s := by
  cases l with
  | l0 => exact absurd rfl h0
  | k1 => exact absurd rfl hk
  | _ => rfl

theorem enqueueStep_eq_primeStep {bs : List Byte} {res : Result} (h1 : l ≠ .w1) (h9 : l ≠ .w9) :
    enqueueStep i bs res l n s = primeStep i .w9 l n s := by
  cases l with
  | w1 => exact absurd rfl h1
  | w9 => exact absurd rfl h9
  | _ => rfl

theorem atL0_eq_ok {x : Except Stop State} : atL0 x l n = .ok t ↔ l = .l0 ∧ x = .ok t := by
  by_cases hl : l = .l0 <;> simp [atL0, hl]

theorem atL0_answers {P : State → Prop} {x : Except Stop State} (n : Nat) (hl : l = .l0) (hx : Answers P x) :
    Answers P (atL0 x l n) := by
  simpa [atL0, hl] using hx

theorem noOpWrite_answers (h : s.Inv) : Answers State.Inv (noOpWrite s) :=
  (requireLife_answers s).bind fun _ _ => h.complete (by simp [Result.bounded])

theorem rbPushStep_answers (h : s.Inv) (r : Inst) (d : Byte) : Answers State.Inv (rbPushStep r d s) :=
  (requireLife_answers s).bind fun _ _ => (requireRole_answers _).bind fun _ _ =>
    (push_answers h r d).bind fun _ ⟨ht, _⟩ => ht.complete rfl

theorem rbPopStep_answers (h : s.Inv) (r : Inst) : Answers State.Inv (rbPopStep r s) :=
  (requireLife_answers s).bind fun _ _ => (requireRole_answers _).bind fun _ _ =>
    (pop_answers h r).bind fun _ ⟨ht, _⟩ => ht.complete rfl

theorem rbEmptyStep_answers (h : s.Inv) (r : Inst) : Answers State.Inv (rbEmptyStep r s) :=
  (requireLife_answers s).bind fun _ _ => (ringEmpty_answers s r).bind fun _ _ => h.complete rfl

theorem rbFullStep_answers (h : s.Inv) (r : Inst) : Answers State.Inv (rbFullStep r s) :=
  (requireLife_answers s).bind fun _ _ => (ringFull_answers s r).bind fun _ _ => h.complete rfl

theorem readableStep_answers (h : s.Inv) : Answers State.Inv (readableStep s) :=
  (requireLife_answers s).bind fun _ _ => (ringEmpty_answers s .rx).bind fun _ _ => h.complete rfl

theorem getcStep_answers (h : s.Inv) : Answers State.Inv (getcStep s) :=
  (requireLife_answers s).bind fun _ _ => (pop_answers h .rx).bind fun ⟨o, _⟩ ⟨ht, _⟩ => by
    cases o with
    | none => trivial
    | some v => exact ht.complete rfl

theorem ctorStep_answers (h : s.Inv) (ha : s.active = false) (b : Bool) : Answers State.Inv (ctorStep b s) := by
  unfold ctorStep
  split
  · trivial
  · exact h.construct_complete ha b

theorem dtorStep_answers (h : s.Inv) (ha : s.active = false) : Answers State.Inv (dtorStep s) :=
  (requireLife_answers s).bind fun _ _ => h.teardown_complete ha

theorem syncStep_answers (h : s.Inv) (hf : s.fg = .busy .sync l n) : Answers State.Inv (syncStep s l n) := by
  have hb := h.busyLegal hf
  cases l with
  | l0 =>
    exact (requireLife_answers s).bind fun _ hlife =>
      h.goto ⟨hb.wf, hb.port, rfl, fun _ => hlife, by simp, by simp⟩
  | s1 =>
    refine (ringEmpty_answers s .tx).bind fun b _ => ?_
    cases b
    · trivial
    · exact h.complete rfl
  | _ => cases hb.label

/-- R122: every label of the prime sequence, in the command that runs it. -/
theorem primeStep_answers (h : s.Inv) (ha : s.active = false) (hf : s.fg = .busy i l n)
    (hl : l = .p0 ∨ l = .p1 ∨ l = .p2 ∨ l = .p3) :
    Answers State.Inv (primeStep i i.continuation l n s) := by
  have hb := h.busyLegal hf
  have hlife : s.life = true := hb.life (by rcases hl with rfl | rfl | rfl | rfl <;> simp)
  have hk : i.hasLabel s.cfg i.continuation = true :=
    Instr.hasLabel_continuation (by rcases hl with rfl | rfl | rfl | rfl <;> exact hb.label)
  have hk2 : ¬ (i.continuation = .p2 ∨ i.continuation = .p3) := by
    rcases i.continuation_eq with e | e <;> simp [e]
  have hkw : i.continuation ≠ .w1 := by rcases i.continuation_eq with e | e <;> simp [e]
  rcases hl with rfl | rfl | rfl | rfl
  · show (s.goto i (if s.u.txReady then .p1 else i.continuation) n).Inv
    split
    · exact h.goto ⟨hb.wf, hb.port, hb.label, fun _ => hlife, by simp, by simp⟩
    · exact h.goto ⟨hb.wf, hb.port, hk, fun _ => hlife, (absurd · hk2), (absurd · hkw)⟩
  · exact (h.detach ha).goto ⟨hb.wf, hb.port, hb.label, fun _ => hlife, fun _ => ⟨rfl, ha⟩, by simp⟩
  · refine (drainIter_answers h).bind ?_
    rintro ⟨t, d⟩ (⟨rfl, ht, hfg⟩ | ⟨rfl, rfl | rfl⟩)
    · exact ht.goto (ht.busyLegal (hfg.trans hf))
    · exact h.goto ⟨hb.wf, hb.port, hb.label, fun _ => hlife, fun _ => hb.primeOff (.inl rfl), by simp⟩
    · exact (h.detach ha).goto ⟨hb.wf, hb.port, hb.label, fun _ => hlife, fun _ => ⟨rfl, ha⟩, by simp⟩
  · exact h.attach_goto hlife ⟨hb.wf, hb.port, hk, fun _ => hlife, (absurd · hk2), (absurd · hkw)⟩

theorem primeCmdStep_answers (h : s.Inv) (ha : s.active = false) (hf : s.fg = .busy .prime l n) :
    Answers State.Inv (primeCmdStep s l n) := by
  have hb := h.busyLegal hf
  cases l with
  | l0 =>
    exact (requireLife_answers s).bind fun _ hlife =>
      h.goto ⟨hb.wf, hb.port, rfl, fun _ => hlife, by simp, by simp⟩
  | k1 => exact h.complete rfl
  | p0 | p1 | p2 | p3 => exact primeStep_answers h ha hf (by simp)
  | w1 | w9 | s1 => cases hb.label

/-- R150: W1 holds, or pushes a byte the cursor points at and goes on inside the payload or to P0. -/
theorem enqueueByte_answers (h : s.Inv) (hf : s.fg = .busy i .w1 n) :
    Answers State.Inv (enqueueByte i (i.sends s.cfg) n s) := by
  have hb := h.busyLegal hf
  have hlife : s.life = true := hb.life (by simp)
  refine (mustWait_answers s).bind fun wait _ => ?_
  cases wait with
  | true => trivial
  | false =>
    simp only [Bool.false_eq_true, if_false, List.getElem?_eq_getElem (hb.cursor rfl)]
    refine (push_answers h .tx _).bind ?_
    rintro _ ⟨ht, rb, rfl⟩
    show ((s.setInstance .tx rb).goto i (if _ then .w1 else .p0) (n + 1)).Inv
    split
    next hn => exact ht.goto ⟨hb.wf, hb.port, hb.label, fun _ => hlife, by simp, fun _ => hn⟩
    next => exact ht.goto ⟨hb.wf, hb.port, Instr.hasLabel_p0 hb.label, fun _ => hlife, by simp, by simp⟩

/-- R150: every label of the enqueue loop and of the prime sequence it ends in. -/
theorem enqueueStep_answers (h : s.Inv) (ha : s.active = false) (hf : s.fg = .busy i l n)
    (hi : i.isWriteFamily = true) (hl : l ≠ .l0) :
    Answers State.Inv (enqueueStep i (i.sends s.cfg) i.writeFamilyResult l n s) := by
  have hb := h.busyLegal hf
  have hc : i.continuation = .w9 := Instr.continuation_of_isWriteFamily hi
  rcases Instr.label_of_isWriteFamily hb.label hi with rfl | rfl | rfl | hp
  · exact absurd rfl hl
  · exact enqueueByte_answers h hf
  · exact h.complete (writeFamilyResult_bounded hb.wf)
  · have hx := primeStep_answers h ha hf hp
    rw [hc] at hx
    rcases hp with rfl | rfl | rfl | rfl <;> exact hx

theorem writeFamily_answers (h : s.Inv) (ha : s.active = false) (hf : s.fg = .busy i l n)
    (hi : i.isWriteFamily = true) : Answers State.Inv (portStep i s l n) := by
  have hb := h.busyLegal hf
  rw [portStep_writeFamily hi]
  split
  next hs =>
    have hp : i ≠ .prime := by rintro rfl; cases hi
    have hy : i ≠ .sync := by rintro rfl; cases hi
    exact atL0_answers n (Instr.label_eq_l0 hb.label hp hy hs) (noOpWrite_answers h)
  next hs =>
    split
    next =>
      refine (requireLife_answers s).bind fun _ hlife => h.goto ⟨hb.wf, hb.port, ?_, fun _ => hlife, by simp, ?_⟩
      · simp [Instr.hasLabel, hi, hs]
      · exact fun _ => List.length_pos_iff.mpr hs
    next hl => exact enqueueStep_answers h ha hf hi hl

/-- In a legal state the outstanding command's micro-step does not stop the model, and leaves a legal state. -/
theorem portStep_answers (h : s.Inv) (hat : s.At i l n) : Answers State.Inv (portStep i s l n) := by
  obtain ⟨hmay, hf⟩ := hat
  have ha : s.active = false := (State.fgMayStep_iff.mp hmay).2
  have hb := h.busyLegal hf
  have hl0 := Instr.label_eq_l0 hb.label
  cases i with
  | rbPush r d => exact atL0_answers n (hl0 nofun nofun rfl) (rbPushStep_answers h r d)
  | rbPop r => exact atL0_answers n (hl0 nofun nofun rfl) (rbPopStep_answers h r)
  | rbEmpty r => exact atL0_answers n (hl0 nofun nofun rfl) (rbEmptyStep_answers h r)
  | rbFull r => exact atL0_answers n (hl0 nofun nofun rfl) (rbFullStep_answers h r)
  | prime => exact primeCmdStep_answers h ha hf
  | putc _ | puts _ | write _ => exact writeFamily_answers h ha hf rfl
  | getc => exact atL0_answers n (hl0 nofun nofun rfl) (getcStep_answers h)
  | readable => exact atL0_answers n (hl0 nofun nofun rfl) (readableStep_answers h)
  | sync => exact syncStep_answers h hf
  | ctor b => exact atL0_answers n (hl0 nofun nofun rfl) (ctorStep_answers h ha b)
  | dtor => exact atL0_answers n (hl0 nofun nofun rfl) (dtorStep_answers h ha)
  | txisr | rxisr => cases hb.port

/-! ## The interrupt services -/

/-- R126: the exit of a drain iteration clears ACTIVE, whether or not the iteration detached the handler. -/
theorem txServiceStep_answers (h : s.Inv) : Answers State.Inv (txServiceStep s) := by
  refine (drainIter_answers h).bind ?_
  rintro ⟨t, d⟩ (⟨rfl, ht, -⟩ | ⟨rfl, rfl | rfl⟩)
  · exact ht
  · exact h.txReturn
  · exact h.txReturn.detach rfl

theorem rxServiceStep_answers (h : s.Inv) : Answers State.Inv (rxServiceStep s) :=
  (uartRead_answers h).bind fun x hx =>
    (push_answers hx .rx x.1).mono fun _ => And.left

/-! ## The step -/

/-- The outcome is a next state, and a legal one. -/
def KeepsInv (o : Host.Outcome State Fault Refusal) : Prop := ∃ t, o = .next t ∧ t.Inv

theorem settle_keepsInv (h : s.Inv) {x : Except Stop State} (hx : Answers State.Inv x) : KeepsInv (s.settle x) := by
  rcases x with (_ | k | _) | t
  · exact ⟨s, rfl, h⟩
  · exact ⟨s.raise k, rfl, h.raise k⟩
  · exact hx.elim
  · exact ⟨t, rfl, hx⟩

theorem execTxisr_keepsInv (h : s.Inv) : KeepsInv (execTxisr s) := by
  unfold execTxisr
  split
  · exact settle_keepsInv h (txServiceStep_answers h)
  · split
    next he =>
      obtain ⟨-, -, ht, -⟩ := State.txEntryEnabled_iff.mp he
      exact ⟨_, rfl, h.txEntry ht⟩
    next => exact ⟨s, rfl, h⟩

theorem execRxisr_keepsInv (h : s.Inv) : KeepsInv (execRxisr s) := by
  unfold execRxisr
  split
  · exact settle_keepsInv h (rxServiceStep_answers h)
  · exact ⟨s, rfl, h⟩

/-- R79, R216: a foreground move holds, starts the command presented or refuses it, or steps the outstanding command. -/
theorem fgAgentStep_cases (s : State) :
    ((s.fgMayStep = false ∨ (s.fg = .idle ∧ s.presented = none)) ∧ fgAgentStep s = .next s) ∨
    (∃ c, s.fgMayStep = true ∧ s.fg = .idle ∧ s.presented = some c ∧
      ((∃ e, decode s.cfg.lenMax c.word c.payload = .error e ∧ fgAgentStep s = .next (s.raise .illegalCmd)) ∨
       (∃ i, decode s.cfg.lenMax c.word c.payload = .ok i ∧ fgAgentStep s = .next (s.goto i .l0 0)))) ∨
    ∃ i l n, s.At i l n ∧ fgAgentStep s = exec i s := by
  unfold fgAgentStep State.fgMove
  cases hmay : s.fgMayStep with
  | false => exact .inl ⟨.inl rfl, rfl⟩
  | true =>
    cases hf : s.fg with
    | busy i l n => exact .inr (.inr ⟨i, l, n, ⟨hmay, hf⟩, rfl⟩)
    | idle =>
      cases hc : s.presented with
      | none => exact .inl ⟨.inr ⟨rfl, rfl⟩, rfl⟩
      | some c =>
        refine .inr (.inl ⟨c, rfl, rfl, rfl, ?_⟩)
        cases hd : decode s.cfg.lenMax c.word c.payload with
        | error e => exact .inl ⟨e, rfl, by simp [hd]⟩
        | ok i =>
          obtain ⟨-, hp⟩ := decode_wf_port hd
          exact .inr ⟨i, rfl, by simp [hd, exec_eq_fgStep hp, State.fgStep, hmay, hf]⟩

theorem fgAgentStep_keepsInv (h : s.Inv) : KeepsInv (fgAgentStep s) := by
  rcases fgAgentStep_cases s with ⟨-, e⟩ | ⟨c, -, -, -, ⟨_, -, e⟩ | ⟨i, hd, e⟩⟩ | ⟨i, l, n, hat, e⟩
  · exact ⟨s, e, h⟩
  · exact ⟨_, e, h.raise _⟩
  · obtain ⟨hw, hp⟩ := decode_wf_port hd
    exact ⟨_, e, h.goto (State.busyLegal_l0 hw hp)⟩
  · rw [e, exec_of_at (h.busyLegal hat.2).port hat]
    exact settle_keepsInv h (portStep_answers h hat)

theorem step_keepsInv (h : s.Inv) : KeepsInv (step s) := by
  have h' : s.takeMove.2.Inv := h.of_sameBlock s.takeMove_sameBlock
  unfold step
  cases s.takeMove.1 with
  | fg => exact fgAgentStep_keepsInv h'
  | txi => exact execTxisr_keepsInv h'
  | rxi => exact execRxisr_keepsInv h'
  | env e => exact ⟨_, rfl, h'.of_sameBlock rfl⟩

/-- Settles O14: the step of a legal state answers a legal state, and it answers only one. -/
theorem stepKeepsInvariant : Obligations.StepKeepsInvariant := by
  intro s t h hst
  obtain ⟨t', e, ht'⟩ := step_keepsInv h
  obtain rfl : t' = t := by simpa [e] using hst
  exact ht'

/-- Settles O15: the other half of the same fact, that a next state is always there. -/
theorem legalStatesAlwaysStep : Obligations.LegalStatesAlwaysStep := fun _ h =>
  (step_keepsInv h).imp fun _ => And.left

/-! ## Power-on and the register table -/

/-- Settles O13: nothing is constructed, requested or outstanding at power-on. -/
theorem powerOnStateIsLegal : Obligations.PowerOnStateIsLegal where
  txLegal := nofun
  rxLegal := nofun
  txLife := rfl
  rxLife := rfl
  bofLife := rfl
  txieLife := nofun
  rxieLife := rfl
  activeTxie := nofun
  faultCode := Nat.zero_le 5
  fgLegal := trivial
  counts := by simp [State.reset]

theorem bit_fits (b : Bool) : b.toNat ≤ 1 ∧ b.toNat < 2 ^ 1 := by
  cases b <;> decide

/-- A slot index of a capacity `c` fits the width R33 gives `rd` and `wr`. -/
theorem index_fits {k : Nat} (hk : k < c) : k ≤ c - 1 ∧ k < 2 ^ max 1 (Nat.clog 2 c) :=
  ⟨Nat.le_sub_one_of_lt hk,
    calc k < c := hk
      _ ≤ 2 ^ Nat.clog 2 c := Nat.le_pow_clog (by decide) c
      _ ≤ 2 ^ max 1 (Nat.clog 2 c) := Nat.pow_le_pow_right (by decide) (Nat.le_max_right _ _)⟩

/-- A fill of a capacity `c` fits the width R33 gives `count`. -/
theorem count_fits {k : Nat} (hk : k ≤ c) : k ≤ c ∧ k < 2 ^ Nat.clog 2 (c + 1) :=
  ⟨hk, Nat.lt_of_lt_of_le (Nat.lt_succ_of_le hk) (Nat.le_pow_clog (by decide) (c + 1))⟩

/-- Settles O18, register by register. -/
theorem registersHoldLegalValues : Obligations.RegistersHoldLegalValues := by
  intro s r v h hv
  cases r with
  | life | txie | rxie | active =>
    obtain rfl := Option.some.inj hv
    exact bit_fits _
  | cfgBof =>
    obtain ⟨b, -, rfl⟩ := Option.map_eq_some_iff.mp hv
    exact bit_fits b
  | fault =>
    obtain rfl := Option.some.inj hv
    exact ⟨h.faultCode, s.fault.isLt⟩
  | txRd =>
    obtain ⟨rb, hrb, rfl⟩ := Option.map_eq_some_iff.mp hv
    exact index_fits (h.txLegal rb hrb).rd_lt
  | txWr =>
    obtain ⟨rb, hrb, rfl⟩ := Option.map_eq_some_iff.mp hv
    exact index_fits (h.txLegal rb hrb).wr_lt
  | txCount =>
    obtain ⟨rb, hrb, rfl⟩ := Option.map_eq_some_iff.mp hv
    exact count_fits (h.txLegal rb hrb).count_le
  | rxRd =>
    obtain ⟨rb, hrb, rfl⟩ := Option.map_eq_some_iff.mp hv
    exact index_fits (h.rxLegal rb hrb).rd_lt
  | rxWr =>
    obtain ⟨rb, hrb, rfl⟩ := Option.map_eq_some_iff.mp hv
    exact index_fits (h.rxLegal rb hrb).wr_lt
  | rxCount =>
    obtain ⟨rb, hrb, rfl⟩ := Option.map_eq_some_iff.mp hv
    exact count_fits (h.rxLegal rb hrb).count_le

/-! ## LIFE, RXIE and CFG.BOF -/

/-- The three registers that only construction and teardown write (R24, R26, R27). -/
def State.construction (s : State) : Bool × Bool × Option Bool := (s.life, s.rxie, s.cfgBof)

theorem State.construction_eq_iff :
    t.construction = s.construction ↔ t.life = s.life ∧ t.rxie = s.rxie ∧ t.cfgBof = s.cfgBof := by
  simp [State.construction]

theorem State.setInstance_construction (s : State) (r : Inst) (rb : Ring 8) :
    (s.setInstance r rb).construction = s.construction := by
  cases r <;> rfl

theorem State.raise_construction (s : State) (k : FaultCode) :
    (s.raise k).construction = s.construction := by
  simp [State.construction]

theorem State.SameBlock.construction_eq (hb : s.SameBlock t) : t.construction = s.construction :=
  (congrArg State.construction hb).trans rfl

/-- A micro-step of `s` that writes none of the three registers. -/
abbrev State.KeepsConstruction (s : State) : Except Stop State → Prop :=
  Yields fun t => t.construction = s.construction

theorem push_keepsConstruction (s : State) (r : Inst) (v : Byte) : s.KeepsConstruction (s.push r v) :=
  .after fun _ => .after fun _ => s.setInstance_construction r _

theorem pop_yields_construction (s : State) (r : Inst) :
    Yields (fun x => x.2.construction = s.construction) (s.pop r) :=
  .after fun _ => .after fun _ => s.setInstance_construction r _

theorem uartWrite_keepsConstruction (s : State) (b : Byte) : s.KeepsConstruction (s.uartWrite b) := by
  refine yields_iff.mpr fun t h => ?_
  obtain ⟨-, rfl⟩ := State.uartWrite_eq_ok.mp h
  exact s.takeDraw_sameBlock.construction_eq

theorem uartRead_yields_construction (s : State) :
    Yields (fun x => x.2.construction = s.construction) s.uartRead := by
  refine yields_iff.mpr fun x h => ?_
  obtain ⟨-, _, -, rfl⟩ := State.uartRead_eq_ok.mp h
  rfl

theorem drainIter_yields_construction (s : State) :
    Yields (fun x => x.1.construction = s.construction) s.drainIter := by
  unfold State.drainIter
  split
  · refine (pop_yields_construction s .tx).bind fun ⟨o, t⟩ ht => ?_
    cases o with
    | none => exact ht
    | some b => exact (uartWrite_keepsConstruction t b).bind fun _ ht' => ht'.trans ht
  · rfl

theorem primeStep_keepsConstruction (s : State) (i : Instr) (k l : Label) (n : Nat) :
    s.KeepsConstruction (primeStep i k l n s) := by
  cases l with
  | p0 | p1 | p3 => rfl
  | p2 => exact (drainIter_yields_construction s).bind fun _ hx => hx
  | _ => trivial

theorem primeCmdStep_keepsConstruction (s : State) (l : Label) (n : Nat) :
    s.KeepsConstruction (primeCmdStep s l n) := by
  by_cases h0 : l = .l0
  · subst h0
    exact .after fun _ => rfl
  · by_cases hk : l = .k1
    · subst hk
      rfl
    · rw [primeCmdStep_eq_primeStep h0 hk]
      exact primeStep_keepsConstruction s .prime .k1 l n

theorem enqueueByte_keepsConstruction (s : State) (i : Instr) (bs : List Byte) (n : Nat) :
    s.KeepsConstruction (enqueueByte i bs n s) := by
  refine .after fun wait => ?_
  cases wait with
  | true => trivial
  | false =>
    cases hb : bs[n]? with
    | none => trivial
    | some b => exact (push_keepsConstruction s .tx b).bind fun _ ht => ht

theorem enqueueStep_keepsConstruction (s : State) (i : Instr) (bs : List Byte) (res : Result) (l : Label) (n : Nat) :
    s.KeepsConstruction (enqueueStep i bs res l n s) := by
  by_cases h1 : l = .w1
  · subst h1
    exact enqueueByte_keepsConstruction s i bs n
  · by_cases h9 : l = .w9
    · subst h9
      rfl
    · rw [enqueueStep_eq_primeStep h1 h9]
      exact primeStep_keepsConstruction s i .w9 l n

theorem syncStep_keepsConstruction (s : State) (l : Label) (n : Nat) : s.KeepsConstruction (syncStep s l n) := by
  cases l with
  | l0 => exact .after fun _ => rfl
  | s1 => exact .after fun b => by cases b <;> trivial
  | _ => trivial

theorem atL0_yields {P : State → Prop} {x : Except Stop State} (l : Label) (n : Nat) (hx : Yields P x) :
    Yields P (atL0 x l n) := by
  unfold atL0
  split
  · exact hx
  · trivial

theorem writeFamily_keepsConstruction (hi : i.isWriteFamily = true) (s : State) (l : Label) (n : Nat) :
    s.KeepsConstruction (portStep i s l n) := by
  rw [portStep_writeFamily hi]
  split
  · exact atL0_yields l n (.after fun _ => rfl)
  · split
    · exact .after fun _ => rfl
    · exact enqueueStep_keepsConstruction s i _ _ l n

theorem getcStep_keepsConstruction (s : State) : s.KeepsConstruction (getcStep s) :=
  .after fun _ => (pop_yields_construction s .rx).bind fun ⟨o, _⟩ ht => by
    cases o with
    | none => trivial
    | some _ => exact ht

/-- Every port command but CTOR and DTOR keeps the three registers. -/
theorem portStep_keepsConstruction (hc : ∀ b, i ≠ .ctor b) (hd : i ≠ .dtor) (s : State) (l : Label) (n : Nat) :
    s.KeepsConstruction (portStep i s l n) := by
  cases i with
  | rbPush r d =>
    exact atL0_yields l n (.after fun _ => .after fun _ => (push_keepsConstruction s r d).bind fun _ ht => ht)
  | rbPop r =>
    exact atL0_yields l n (.after fun _ => .after fun _ => (pop_yields_construction s r).bind fun _ ht => ht)
  | rbEmpty _ | rbFull _ | readable => exact atL0_yields l n (.after fun _ => .after fun _ => rfl)
  | prime => exact primeCmdStep_keepsConstruction s l n
  | putc _ | puts _ | write _ => exact writeFamily_keepsConstruction rfl s l n
  | getc => exact atL0_yields l n (getcStep_keepsConstruction s)
  | sync => exact syncStep_keepsConstruction s l n
  | ctor b => exact absurd rfl (hc b)
  | dtor => exact absurd rfl hd
  | txisr | rxisr => trivial

theorem txServiceStep_keepsConstruction (s : State) : s.KeepsConstruction (txServiceStep s) :=
  (drainIter_yields_construction s).bind fun ⟨_, d⟩ hx => by
    cases d <;> exact hx

theorem rxServiceStep_keepsConstruction (s : State) : s.KeepsConstruction (rxServiceStep s) :=
  (uartRead_yields_construction s).bind fun x hx =>
    yields_iff.mpr fun _ h => (yields_iff.mp (push_keepsConstruction x.2 .rx x.1) _ h).trans hx

/-- R126, R212: what the transmit service does when it is its move. -/
theorem exec_txisr_eq_next : exec .txisr s = .next t ↔
    (s.txServiceEnabled = true ∧ s.settle (txServiceStep s) = .next t) ∨
    (s.txServiceEnabled = false ∧ s.txEntryEnabled = true ∧ t = s.txEntry) ∨
    (s.txServiceEnabled = false ∧ s.txEntryEnabled = false ∧ t = s) := by
  show execTxisr s = _ ↔ _
  cases hs : s.txServiceEnabled <;> cases he : s.txEntryEnabled <;> simp [execTxisr, hs, he, @eq_comm _ _ t]

/-- R140, R213: what the receive service does when it is its move. -/
theorem exec_rxisr_eq_next : exec .rxisr s = .next t ↔
    (s.rxServiceEnabled = true ∧ s.settle (rxServiceStep s) = .next t) ∨
    (s.rxServiceEnabled = false ∧ t = s) := by
  show execRxisr s = _ ↔ _
  cases hs : s.rxServiceEnabled <;> simp [execRxisr, hs, @eq_comm _ _ t]

theorem settle_construction {x : Except Stop State} (hx : s.KeepsConstruction x) (h : s.settle x = .next t) :
    t.construction = s.construction := by
  rcases State.settle_eq_next.mp h with rfl | ⟨-, rfl⟩ | ⟨k, -, rfl⟩
  · exact hx
  · rfl
  · exact s.raise_construction k

/-- The two interrupt services keep the three registers (R140, R217). -/
theorem exec_construction_of_dispatch (hi : i.issuedBy = .dispatch) (h : exec i s = .next t) :
    t.construction = s.construction := by
  cases i with
  | txisr =>
    rcases exec_txisr_eq_next.mp h with ⟨-, h⟩ | ⟨-, -, rfl⟩ | ⟨-, -, rfl⟩
    · exact settle_construction (txServiceStep_keepsConstruction s) h
    · rfl
    · rfl
  | rxisr =>
    rcases exec_rxisr_eq_next.mp h with ⟨-, h⟩ | ⟨-, rfl⟩
    · exact settle_construction (rxServiceStep_keepsConstruction s) h
    · rfl
  | _ => cases hi

/-- R241: CTOR's micro-step, when it answers. -/
theorem ctorStep_eq_ok {b : Bool} :
    ctorStep b s = .ok t ↔ s.life = false ∧ t = (s.construct b).complete .none := by
  cases hl : s.life <;> simp [ctorStep, hl, @eq_comm _ _ t]

/-- R242: DTOR's micro-step, when it answers. -/
theorem dtorStep_eq_ok : dtorStep s = .ok t ↔ s.life = true ∧ t = s.teardown.complete .none := by
  simp [dtorStep, bind_eq_ok, State.requireLife_eq_ok, @eq_comm _ _ t]

/-- A port command's micro-step that changes one of the three registers is the `L0` step of CTOR or of DTOR. -/
theorem portStep_changes_construction (h : portStep i s l n = .ok t) (hne : t.construction ≠ s.construction) :
    l = .l0 ∧ ((∃ b, i = .ctor b ∧ t.construction = (true, true, some b)) ∨
      (i = .dtor ∧ t.construction = (false, false, none))) := by
  by_cases hc : ∃ b, i = .ctor b
  · obtain ⟨b, rfl⟩ := hc
    obtain ⟨hl, hx⟩ := atL0_eq_ok.mp (show atL0 (ctorStep b s) l n = .ok t from h)
    obtain ⟨-, rfl⟩ := ctorStep_eq_ok.mp hx
    exact ⟨hl, .inl ⟨b, rfl, rfl⟩⟩
  · by_cases hd : i = .dtor
    · subst hd
      obtain ⟨hl, hx⟩ := atL0_eq_ok.mp (show atL0 (dtorStep s) l n = .ok t from h)
      obtain ⟨-, rfl⟩ := dtorStep_eq_ok.mp hx
      exact ⟨hl, .inr ⟨rfl, rfl⟩⟩
    · have hk := portStep_keepsConstruction (fun b e => hc ⟨b, e⟩) hd s l n
      exact absurd (yields_iff.mp hk t h) hne

/-- A foreground move that changes one of the three registers is the `L0` step of CTOR or of DTOR. -/
theorem fgAgentStep_changes_construction (h : fgAgentStep s = .next t) (hne : t.construction ≠ s.construction) :
    ∃ i n, s.fg = .busy i .l0 n ∧
      ((∃ b, i = .ctor b ∧ t.construction = (true, true, some b)) ∨
       (i = .dtor ∧ t.construction = (false, false, none))) := by
  rcases fgAgentStep_cases s with ⟨-, e⟩ | ⟨c, -, -, -, ⟨_, -, e⟩ | ⟨i, -, e⟩⟩ | ⟨i, l, n, hat, e⟩
  · cases e.symm.trans h
    exact absurd rfl hne
  · cases e.symm.trans h
    exact absurd (s.raise_construction _) hne
  · cases e.symm.trans h
    exact absurd rfl hne
  · rw [e] at h
    cases hi : i.issuedBy with
    | dispatch => exact absurd (exec_construction_of_dispatch hi h) hne
    | port =>
      rw [exec_of_at hi hat] at h
      rcases State.settle_eq_next.mp h with hok | ⟨-, rfl⟩ | ⟨k, -, rfl⟩
      · obtain ⟨rfl, hi⟩ := portStep_changes_construction hok hne
        exact ⟨i, n, hat.2, hi⟩
      · exact absurd rfl hne
      · exact absurd (s.raise_construction k) hne

/-- Settles O42: of all moves only a foreground one can change them, and of its micro-steps only CTOR's and DTOR's. -/
theorem constructionBitsChangeOnlyByCtorDtor : Obligations.ConstructionBitsChangeOnlyByCtorDtor := by
  intro s t h hne
  have hu : s.takeMove.2.construction = s.construction := s.takeMove_sameBlock.construction_eq
  have hne' : t.construction ≠ s.takeMove.2.construction := by
    rw [hu, Ne, State.construction_eq_iff]
    tauto
  unfold step at h
  cases hm : s.takeMove.1 with
  | fg =>
    rw [hm] at h
    obtain ⟨i, n, hf, hi⟩ := fgAgentStep_changes_construction h hne'
    refine ⟨rfl, i, n, s.takeMove_fg ▸ hf, ?_⟩
    simpa [State.construction] using hi
  | txi =>
    rw [hm] at h
    exact absurd (exec_construction_of_dispatch (i := .txisr) rfl h) hne'
  | rxi =>
    rw [hm] at h
    exact absurd (exec_construction_of_dispatch (i := .rxisr) rfl h) hne'
  | env e =>
    rw [hm] at h
    cases h
    exact absurd rfl hne'

end Sys2Proof.Machine

/-! SUPPORT. Proof of the statement about spec/20_memory.md: the transport of a command word over an 8-bit path. -/

namespace Sys2Proof

/-! ## Transport over an 8-bit path (R54) -/

/-- Putting a word's two bytes together in the order R54 sends them gives the word back. -/
theorem wordOfBytes_extractLsb' (w : Word) : wordOfBytes (w.extractLsb' 0 8) (w.extractLsb' 8 8) = w :=
  BitVec.extractLsb'_append_extractLsb' (w := 8) (len := 8)

theorem decodeBytes_bytesOfWord (lenMax : Nat) (w : Word) (p : Payload) :
    decodeBytes lenMax (bytesOfWord w) p = decode lenMax w p := by
  show decode lenMax (wordOfBytes (w.extractLsb' 0 8) (w.extractLsb' 8 8)) p = _
  rw [wordOfBytes_extractLsb']

/-- Settles O6: the order of the bytes is `bytesOfWord`'s own, and decoding them goes through the word they make up. -/
theorem wordTravelsLowByteFirst : Obligations.WordTravelsLowByteFirst :=
  fun lenMax w p => ⟨rfl, decodeBytes_bytesOfWord lenMax w p⟩

end Sys2Proof

/-! SUPPORT. Proofs of the statements about spec/30_encoding.md: decoding is the inverse of encoding, exactly the encodings
R75 lists are refused, the opcode table agrees with the decoder, the pseudo-instructions, and the step that starts a
command. -/

namespace Sys2Proof

variable {lenMax : Nat} {i j : Instr} {w v : Word} {p : Payload} {r : OpcodeRow}

/-! ## Words by their fields (R71) -/

/-- The fields of a word are all of it. -/
theorem word_ext_fields (hop : opField w = opField v) (hs : sField w = sField v) (hz : zField w = zField v)
    (hd : dField w = dField v) : w = v := by
  apply BitVec.eq_of_getLsbD_eq
  intro n hn
  by_cases h8 : n < 8
  · simpa [dField, h8] using congrArg (·.getLsbD n) hd
  · by_cases h11 : n < 11
    · simpa [zField, show n - 8 < 3 by omega, show 8 + (n - 8) = n by omega] using congrArg (·.getLsbD (n - 8)) hz
    · by_cases he : n = 11
      · subst he
        exact hs
      · simpa [opField, show n - 12 < 4 by omega, show 12 + (n - 12) = n by omega] using
          congrArg (·.getLsbD (n - 12)) hop

@[simp] theorem instOfBit_bitOfInst (r : Inst) : instOfBit (bitOfInst r) = r := by
  cases r <;> rfl

@[simp] theorem bitOfInst_instOfBit (b : Bool) : bitOfInst (instOfBit b) = b := by
  cases b <;> rfl

/-- R73: the word and payload an operation is encoded as, field by field. -/
theorem encode_eq_iff : encode i = { word := w, payload := p } ↔
    i.opcode = opField w ∧ i.sBit = sField w ∧ 0#3 = zField w ∧ i.dByte = dField w ∧ i.payload = p := by
  obtain ⟨hop, hs, hz, hd⟩ := Laws.encodedFields i
  rw [← hop, ← hs, ← hz, ← hd]
  constructor
  · intro h
    rw [h]
    exact ⟨rfl, rfl, rfl, rfl, congrArg Command.payload h⟩
  · rintro ⟨h1, h2, h3, h4, h5⟩
    exact congrArg₂ Command.mk (word_ext_fields h1 h2 h3 h4) h5

/-! ## What each format decodes (R71, R75) -/

theorem decodeRb_eq_ok_iff {f : Inst → Instr} :
    decodeRb w p f = .ok i ↔ dField w = 0#8 ∧ p = .none ∧ f (instOfBit (sField w)) = i := by
  simp [decodeRb, checked_eq_ok]

theorem decodeN_eq_ok_iff :
    decodeN w p j = .ok i ↔ sField w = false ∧ dField w = 0#8 ∧ p = .none ∧ j = i := by
  simp [decodeN, checked_eq_ok]

theorem decodeP_eq_ok_iff {f : Buffer → Instr} :
    decodeP lenMax w p f = .ok i ↔
      sField w = false ∧ dField w = 0#8 ∧ ∃ b : Buffer, b.payload = p ∧ b.fits lenMax = true ∧ f b = i := by
  simp only [decodeP, checked_eq_ok, Bool.not_eq_true', beq_iff_eq]
  refine and_congr_right fun _ => and_congr_right fun _ => ?_
  constructor
  · intro h
    cases p with
    | none => cases h
    | null => exact ⟨.null, rfl, rfl, Except.ok.inj h⟩
    | bytes l =>
      obtain ⟨hl, h⟩ := checked_eq_ok.mp h
      exact ⟨.bytes l, rfl, hl, Except.ok.inj h⟩
  · rintro ⟨_ | l, rfl, hb, rfl⟩
    · rfl
    · exact checked_eq_ok.mpr ⟨hb, rfl⟩

/-- R71 format B: the flag's bit with zeros above it. -/
theorem ctor_dByte_iff {b : Bool} {d : Byte} :
    (Instr.ctor b).dByte = d ↔ d.extractLsb' 1 7 = 0#7 ∧ d.getLsbD 0 = b := by
  revert b d
  decide

/-- The decoder reads what the encoder wrote, constructor by constructor. -/
theorem decode_eq_ok_of_encode_eq (he : encode i = { word := w, payload := p }) (hw : i.wf lenMax = true)
    (hp : i.issuedBy = .port) : decode lenMax w p = .ok i := by
  obtain ⟨hop, hs, hz, hd, rfl⟩ := encode_eq_iff.mp he
  refine checked_eq_ok.mpr ⟨by simp [← hz], ?_⟩
  rw [← hop]
  cases i with
  | rbPush r d =>
    refine checked_eq_ok.mpr ⟨rfl, ?_⟩
    simp [← hs, ← hd, Instr.sBit, Instr.dByte]
  | putc d =>
    refine checked_eq_ok.mpr ⟨by simp [← hs, Instr.sBit], checked_eq_ok.mpr ⟨rfl, ?_⟩⟩
    simp [← hd, Instr.dByte]
  | ctor b =>
    obtain ⟨h7, h0⟩ := ctor_dByte_iff.mp hd
    refine checked_eq_ok.mpr ⟨by simp [← hs, Instr.sBit], checked_eq_ok.mpr ⟨by simp [h7], ?_⟩⟩
    exact checked_eq_ok.mpr ⟨rfl, by rw [h0]⟩
  | rbPop r | rbEmpty r | rbFull r =>
    refine decodeRb_eq_ok_iff.mpr ⟨hd.symm, rfl, ?_⟩
    rw [← hs]
    exact congrArg _ (instOfBit_bitOfInst r)
  | puts b | write b => exact decodeP_eq_ok_iff.mpr ⟨hs.symm, hd.symm, b, rfl, hw, rfl⟩
  | prime | getc | readable | sync | dtor => exact decodeN_eq_ok_iff.mpr ⟨hs.symm, hd.symm, rfl, rfl⟩
  | txisr | rxisr => cases hp

/-- What the decoder answers encodes as the pair it read, branch by branch. -/
theorem encode_eq_of_decode_eq_ok (h : decode lenMax w p = .ok i) : encode i = { word := w, payload := p } := by
  rw [encode_eq_iff]
  obtain ⟨hz, h⟩ := checked_eq_ok.mp h
  replace hz : 0#3 = zField w := (beq_iff_eq.mp hz).symm
  split at h
  -- OP 0 and the entry codes
  case h_1 | h_15 => cases h
  -- RB.PUSH
  case h_2 hop =>
    simp only [checked_eq_ok, Except.ok.injEq, beq_iff_eq] at h
    obtain ⟨rfl, rfl⟩ := h
    exact ⟨BitVec.eq_of_toNat_eq hop.symm, bitOfInst_instOfBit _, hz, rfl, rfl⟩
  -- PUTC
  case h_7 hop =>
    simp only [checked_eq_ok, Except.ok.injEq, beq_iff_eq, Bool.not_eq_true'] at h
    obtain ⟨hs, rfl, rfl⟩ := h
    exact ⟨BitVec.eq_of_toNat_eq hop.symm, hs.symm, hz, rfl, rfl⟩
  -- CTOR
  case h_13 hop =>
    simp only [checked_eq_ok, Except.ok.injEq, beq_iff_eq, Bool.not_eq_true'] at h
    obtain ⟨hs, h7, rfl, rfl⟩ := h
    exact ⟨BitVec.eq_of_toNat_eq hop.symm, hs.symm, hz, ctor_dByte_iff.mpr ⟨h7, rfl⟩, rfl⟩
  -- RB.POP, RB.EMPTY, RB.FULL
  case h_3 hop | h_4 hop | h_5 hop =>
    obtain ⟨hd, rfl, rfl⟩ := decodeRb_eq_ok_iff.mp h
    exact ⟨BitVec.eq_of_toNat_eq hop.symm, bitOfInst_instOfBit _, hz, hd.symm, rfl⟩
  -- PUTS, WRITE
  case h_8 hop | h_9 hop =>
    obtain ⟨hs, hd, b, rfl, -, rfl⟩ := decodeP_eq_ok_iff.mp h
    exact ⟨BitVec.eq_of_toNat_eq hop.symm, hs.symm, hz, hd.symm, rfl⟩
  -- format N
  case h_6 hop | h_10 hop | h_11 hop | h_12 hop | h_14 hop =>
    obtain ⟨hs, hd, rfl, rfl⟩ := decodeN_eq_ok_iff.mp h
    exact ⟨BitVec.eq_of_toNat_eq hop.symm, hs.symm, hz, hd.symm, rfl⟩

/-- R74: on the port, decoding is the inverse of encoding. -/
theorem decode_eq_ok_iff : decode lenMax w p = .ok i ↔
    encode i = { word := w, payload := p } ∧ i.wf lenMax = true ∧ i.issuedBy = .port :=
  ⟨fun h => ⟨encode_eq_of_decode_eq_ok h, decode_wf_port h⟩, fun ⟨he, hw, hp⟩ => decode_eq_ok_of_encode_eq he hw hp⟩

/-- Settles O1: one half of the equivalence. -/
theorem portDecodeReadsEncoding : Obligations.PortDecodeReadsEncoding :=
  fun _ _ hw hp => decode_eq_ok_iff.mpr ⟨rfl, hw, hp⟩

/-- Settles O2: the other half. -/
theorem decodedCommandIsItsEncoding : Obligations.DecodedCommandIsItsEncoding :=
  fun _ _ _ _ => decode_eq_ok_iff.mp

/-! ## The illegal encodings (R75) -/

theorem checked_eq_error_iff {ok : Bool} {why : Illegal} {x : Except Illegal Instr} :
    (∃ e, checked ok why x = .error e) ↔ ok = false ∨ ∃ e, x = .error e := by
  cases ok <;> simp [checked]

theorem decodeRb_eq_error_iff {f : Inst → Instr} :
    (∃ e, decodeRb w p f = .error e) ↔ dField w ≠ 0#8 ∨ p ≠ .none := by
  simp [decodeRb, checked_eq_error_iff]

theorem decodeN_eq_error_iff :
    (∃ e, decodeN w p i = .error e) ↔ sField w = true ∨ dField w ≠ 0#8 ∨ p ≠ .none := by
  simp [decodeN, checked_eq_error_iff]

theorem decodeP_eq_error_iff {f : Buffer → Instr} :
    (∃ e, decodeP lenMax w p f = .error e) ↔
      sField w = true ∨ dField w ≠ 0#8 ∨ p = .none ∨ ∃ l, p = .bytes l ∧ lenMax < l.length := by
  cases p <;> simp [decodeP, checked_eq_error_iff]

/-- Where no payload is allowed, R75's case of a payload too long adds nothing. -/
theorem payload_ne_none_or_too_long :
    (¬ p = .none ∨ ∃ l, p = .bytes l ∧ lenMax < l.length) ↔ ¬ p = .none := by
  cases p <;> simp

theorem opField_eq_of_toNat {k : Nat} (h : (opField w).toNat = k) : opField w = BitVec.ofNat 4 k := by
  rw [← h, BitVec.ofNat_toNat, BitVec.setWidth_eq]

/-- R75: under each operation code, the checks that reject are the cases of the list that code leaves. -/
theorem decode_eq_error_iff : (∃ e, decode lenMax w p = .error e) ↔ IllegalEncoding lenMax w p := by
  unfold decode IllegalEncoding
  rw [checked_eq_error_iff]
  split
  -- OP 0
  case h_1 hop => simp [opField_eq_of_toNat hop]
  -- RB.PUSH, PUTC, CTOR
  case h_2 hop | h_7 hop | h_13 hop =>
    simp [opField_eq_of_toNat hop, checked_eq_error_iff, payload_ne_none_or_too_long]
  -- RB.POP, RB.EMPTY, RB.FULL
  case h_3 hop | h_4 hop | h_5 hop =>
    simp [opField_eq_of_toNat hop, decodeRb_eq_error_iff, payload_ne_none_or_too_long]
  -- PUTS, WRITE
  case h_8 hop | h_9 hop => simp [opField_eq_of_toNat hop, decodeP_eq_error_iff]
  -- format N
  case h_6 hop | h_10 hop | h_11 hop | h_12 hop | h_14 hop =>
    simp [opField_eq_of_toNat hop, decodeN_eq_error_iff, payload_ne_none_or_too_long]
  -- the entry codes
  case h_15 =>
    have hlt : (opField w).toNat < 2 ^ 4 := (opField w).isLt
    have hop : (opField w).toNat = 14 ∨ (opField w).toNat = 15 := by
      simp only [imp_false] at *
      omega
    rcases hop with hop | hop <;> simp [opField_eq_of_toNat hop]

/-! ## Sample words (R71) -/

/-- Settles O5: each word is its command's encoding. -/
theorem sampleWordsDecode : Obligations.SampleWordsDecode := by
  refine ⟨?_, ?_, ?_, ?_, ?_, ?_, ?_, rfl, rfl⟩ <;> exact decode_eq_ok_iff.mpr ⟨by decide, by decide, rfl⟩

/-! ## The opcode table (R73, R76) -/

@[simp] theorem opField_and : opField (w &&& v) = opField w &&& opField v := by
  simp [opField, BitVec.extractLsb'_and]

@[simp] theorem sField_and : sField (w &&& v) = (sField w && sField v) := by
  simp [sField]

@[simp] theorem zField_and : zField (w &&& v) = zField w &&& zField v := by
  simp [zField, BitVec.extractLsb'_and]

@[simp] theorem dField_and : dField (w &&& v) = dField w &&& dField v := by
  simp [dField, BitVec.extractLsb'_and]

theorem OpcodeRow.accepts_iff : r.accepts w = true ↔
    opField w &&& opField r.mask = opField r.pattern ∧ (sField w && sField r.mask) = sField r.pattern ∧
      zField w &&& zField r.mask = zField r.pattern ∧ dField w &&& dField r.mask = dField r.pattern := by
  unfold OpcodeRow.accepts
  rw [beq_iff_eq, ← opField_and, ← sField_and, ← zField_and, ← dField_and]
  exact ⟨fun h => by simp [h], fun ⟨h1, h2, h3, h4⟩ => word_ext_fields h1 h2 h3 h4⟩

/-- R71: the mask a format's rows have. -/
def Format.mask : Format → Word
  | .rbd => 0xF700#16
  | .rb => 0xF7FF#16
  | .n | .p => 0xFFFF#16
  | .d8 => 0xFF00#16
  | .b => 0xFFFE#16

/-- R71: what a format asks of the `S` bit and the `D` byte. -/
def Format.admits (s : Bool) (d : Byte) : Format → Bool
  | .rbd => true
  | .rb => d == 0#8
  | .n | .p => !s && d == 0#8
  | .d8 => !s
  | .b => !s && d.extractLsb' 1 7 == 0#7

/-- The mask of a format selects the bits that must be zero. -/
theorem Format.admits_iff {f : Format} {s : Bool} {d : Byte} :
    f.admits s d = true ↔ (s && sField f.mask) = false ∧ d &&& dField f.mask = 0#8 := by
  cases f <;> revert s d <;> decide

/-- The mask of a format selects all of `OP` and of `Z`. -/
theorem Format.mask_fields (f : Format) :
    opField f.mask = BitVec.allOnes 4 ∧ zField f.mask = BitVec.allOnes 3 := by
  cases f <;> decide

theorem Instr.format_admits (i : Instr) : i.format.admits i.sBit i.dByte = true := by
  cases i with
  | ctor b => cases b <;> rfl
  | _ => rfl

/-- The row of the opcode map R73 an operation belongs to, put together from its other columns. -/
def Instr.row (i : Instr) : OpcodeRow where
  mnemonic := i.mnemonic
  pattern := mkWord i.opcode false 0#8
  mask := i.format.mask
  format := i.format
  issuedBy := i.issuedBy

/-- The opcode table is the rows of the fifteen operations, in order. -/
theorem opcodeRows_eq_map_row : opcodeRows = [.rbPush .tx 0#8, .rbPop .tx, .rbEmpty .tx, .rbFull .tx, .prime, .putc 0#8,
    .puts .null, .write .null, .getc, .readable, .sync, .ctor false, .dtor, .txisr, .rxisr].map Instr.row := by
  decide

theorem Instr.row_mem (i : Instr) : i.row ∈ opcodeRows := by
  rw [opcodeRows_eq_map_row, List.mem_map]
  cases i with
  | rbPush r d => exact ⟨.rbPush .tx 0#8, by simp, rfl⟩
  | rbPop r => exact ⟨.rbPop .tx, by simp, rfl⟩
  | rbEmpty r => exact ⟨.rbEmpty .tx, by simp, rfl⟩
  | rbFull r => exact ⟨.rbFull .tx, by simp, rfl⟩
  | putc d => exact ⟨.putc 0#8, by simp, rfl⟩
  | puts b => exact ⟨.puts .null, by simp, rfl⟩
  | write b => exact ⟨.write .null, by simp, rfl⟩
  | ctor b => exact ⟨.ctor false, by simp, rfl⟩
  | _ => exact ⟨_, by simp, rfl⟩

theorem exists_row_of_mem (hr : r ∈ opcodeRows) : ∃ i : Instr, i.row = r := by
  rw [opcodeRows_eq_map_row, List.mem_map] at hr
  obtain ⟨i, -, hi⟩ := hr
  exact ⟨i, hi⟩

/-- R71: a row accepts its operation code with Z = 000 and the fields its format admits. -/
theorem Instr.row_accepts_iff : i.row.accepts w = true ↔
    opField w = i.opcode ∧ zField w = 0#3 ∧ i.format.admits (sField w) (dField w) = true := by
  obtain ⟨hop, hz⟩ := i.format.mask_fields
  simp only [OpcodeRow.accepts_iff, Format.admits_iff, Instr.row, Laws.opField_mkWord, Laws.sField_mkWord,
    Laws.zField_mkWord, Laws.dField_mkWord, hop, hz, BitVec.and_allOnes]
  tauto

theorem Instr.row_accepts_encode (i : Instr) : i.row.accepts (encode i).word = true := by
  obtain ⟨hop, hs, hz, hd⟩ := Laws.encodedFields i
  exact Instr.row_accepts_iff.mpr ⟨hop, hz, by rw [hs, hd, i.format_admits]⟩

/-- A word the row of a port command accepts has none of the faults R75 lists, with the payload of log 8. -/
theorem Instr.not_illegalEncoding_of_row_accepts (hp : i.issuedBy = .port) (h : i.row.accepts w = true) (lenMax : Nat) :
    ¬ IllegalEncoding lenMax w (tablePayload w) := by
  obtain ⟨hop, hz, hadm⟩ := Instr.row_accepts_iff.mp h
  unfold IllegalEncoding tablePayload
  rw [hop, hz]
  cases i with
  | txisr | rxisr => cases hp
  | rbPush r d => simp [Instr.opcode]
  | _ => simpa [Instr.opcode, Instr.format, Format.admits] using hadm

/-- A word some row accepts is, with the payload of log 8, the encoding of a well-formed operation. -/
theorem exists_encode_of_accepts (hr : r ∈ opcodeRows) (h : r.accepts w = true) (lenMax : Nat) :
    ∃ i, encode i = { word := w, payload := tablePayload w } ∧ i.wf lenMax = true := by
  obtain ⟨i, rfl⟩ := exists_row_of_mem hr
  cases hp : i.issuedBy with
  | port =>
    cases hd : decode lenMax w (tablePayload w) with
    | error e => exact absurd (decode_eq_error_iff.mp ⟨e, hd⟩) (i.not_illegalEncoding_of_row_accepts hp h lenMax)
    | ok j =>
      obtain ⟨he, hw, -⟩ := decode_eq_ok_iff.mp hd
      exact ⟨j, he, hw⟩
  | dispatch =>
    obtain ⟨hop, hz, hadm⟩ := Instr.row_accepts_iff.mp h
    refine ⟨i, ?_⟩
    rw [encode_eq_iff, tablePayload, hop, hz]
    cases i with
    | txisr | rxisr =>
      have ⟨hs, hd⟩ : sField w = false ∧ dField w = 0#8 := by
        simpa [Instr.format, Format.admits] using hadm
      exact ⟨⟨rfl, hs.symm, rfl, hd.symm, rfl⟩, rfl⟩
    | _ => cases hp

/-- R76: the entry codes are the words of the two operations the dispatch issues. -/
theorem entryCode_eq_some_iff : entryCode w = some i ↔ i.issuedBy = .dispatch ∧ (encode i).word = w := by
  have htx : (encode .txisr).word = 0xE000#16 := by decide
  have hrx : (encode .rxisr).word = 0xF000#16 := by decide
  constructor
  · unfold entryCode
    split_ifs with ht hr
    · rintro ⟨⟩
      exact ⟨rfl, htx.trans ht.symm⟩
    · rintro ⟨⟩
      exact ⟨rfl, hrx.trans hr.symm⟩
    · nofun
  · rintro ⟨hi, rfl⟩
    cases i with
    | txisr | rxisr => rfl
    | _ => cases hi

/-- R76: the operation code alone tells an operation of the dispatch. -/
theorem Instr.eq_of_opcode_eq_of_dispatch (hi : i.issuedBy = .dispatch) (hop : j.opcode = i.opcode) : j = i := by
  cases i with
  | txisr =>
    cases j with
    | txisr => rfl
    | _ => simp [Instr.opcode] at hop
  | rxisr =>
    cases j with
    | rxisr => rfl
    | _ => simp [Instr.opcode] at hop
  | _ => cases hi

theorem Instr.payload_wf_of_dispatch (hi : i.issuedBy = .dispatch) :
    i.payload = .none ∧ i.wf lenMax = true := by
  cases i with
  | txisr | rxisr => exact ⟨rfl, rfl⟩
  | _ => cases hi

/-- R73, R76: reading a row of the opcode map is the inverse of encoding, for all fifteen operations. -/
theorem decodeRow_eq_some_iff : decodeRow lenMax w p = some i ↔
    encode i = { word := w, payload := p } ∧ i.wf lenMax = true := by
  unfold decodeRow
  cases hw : entryCode w with
  | some j =>
    obtain ⟨hj, rfl⟩ := entryCode_eq_some_iff.mp hw
    obtain ⟨hjp, hjw⟩ := j.payload_wf_of_dispatch (lenMax := lenMax) hj
    simp only [Option.ite_none_right_eq_some, Option.some.injEq]
    constructor
    · rintro ⟨rfl, rfl⟩
      exact ⟨congrArg (Command.mk _) hjp, hjw⟩
    · rintro ⟨he, -⟩
      obtain ⟨hop, -, -, -, hp⟩ := encode_eq_iff.mp he
      obtain rfl := Instr.eq_of_opcode_eq_of_dispatch hj (hop.trans (Laws.encodedFields j).1)
      exact ⟨hp.symm.trans hjp, rfl⟩
  | none =>
    have hport (he : encode i = { word := w, payload := p }) : i.issuedBy = .port := by
      cases hi : i.issuedBy with
      | port => rfl
      | dispatch => cases hw.symm.trans (entryCode_eq_some_iff.mpr ⟨hi, congrArg Command.word he⟩)
    have hd : (decode lenMax w p).toOption = some i ↔ decode lenMax w p = .ok i := by
      cases decode lenMax w p <;> simp [Except.toOption]
    rw [hd, decode_eq_ok_iff]
    tauto

theorem Instr.opField_row_pattern (i : Instr) : opField i.row.pattern = i.opcode :=
  Laws.opField_mkWord _ _ _

/-- R73: no two rows have the same operation code. -/
theorem opcodeRows_pairwise_opField : opcodeRows.Pairwise fun r q => opField r.pattern ≠ opField q.pattern := by
  decide

theorem opField_of_accepts (hr : r ∈ opcodeRows) (h : r.accepts w = true) : opField w = opField r.pattern := by
  obtain ⟨i, rfl⟩ := exists_row_of_mem hr
  rw [i.opField_row_pattern]
  exact (Instr.row_accepts_iff.mp h).1

/-- Settles O4: each operation's own row accepts it, rows differ in the operation code, and what rows accept is what
operations encode to. -/
theorem opcodeTableAgreesWithDecoder : Obligations.OpcodeTableAgreesWithDecoder := by
  refine ⟨fun i => ⟨i.row, i.row_mem, i.row_accepts_encode, rfl, rfl, rfl⟩, ?_, fun lenMax w => ⟨?_, ?_⟩⟩
  · refine opcodeRows_pairwise_opField.imp_of_mem fun hr hq hne w ⟨hrw, hqw⟩ => hne ?_
    exact (opField_of_accepts hr hrw).symm.trans (opField_of_accepts hq hqw)
  · rintro ⟨r, hr, hrw⟩
    obtain ⟨i, hi⟩ := exists_encode_of_accepts hr hrw lenMax
    exact ⟨i, decodeRow_eq_some_iff.mpr hi⟩
  · rintro ⟨i, hi⟩
    obtain ⟨he, -⟩ := decodeRow_eq_some_iff.mp hi
    have hw : (encode i).word = w := congrArg Command.word he
    exact ⟨i.row, i.row_mem, hw ▸ i.row_accepts_encode⟩

end Sys2Proof

namespace Sys2Proof.Machine

variable {s : State} {i : Instr} {c : Command} {l : Label} {n : Nat} {m : Move} {rest : List Move}

/-! ## Pseudo-instructions (R81) -/

/-- Settles O7: the two texts are assembled, and a string operand is its characters' codes. -/
theorem pseudoInstructionsExpand : Obligations.PseudoInstructionsExpand := by
  refine ⟨by decide, by decide, fun cs bs h => ?_⟩
  simp [commandOf, bufferOf, h]

/-! ## The foreground's move, an equation per branch (R79, R216) -/

theorem fgAgentStep_of_not_mayStep (h : s.fgMayStep = false) : fgAgentStep s = .next s := by
  simp [fgAgentStep, State.fgMove, h]

theorem fgAgentStep_of_at (h : s.At i l n) : fgAgentStep s = exec i s := by
  obtain ⟨hmay, hf⟩ := h
  simp [fgAgentStep, State.fgMove, hmay, hf]

theorem fgAgentStep_of_presented_none (hf : s.fg = .idle) (hc : s.presented = none) : fgAgentStep s = .next s := by
  simp [fgAgentStep, State.fgMove, hf, hc]

theorem fgAgentStep_of_decoded (hmay : s.fgMayStep = true) (hf : s.fg = .idle) (hc : s.presented = some c)
    (hd : decode s.cfg.lenMax c.word c.payload = .ok i) : fgAgentStep s = exec i s := by
  simp [fgAgentStep, State.fgMove, hmay, hf, hc, hd]

/-- R202: the fault is recorded, as none was before it (R200). -/
theorem fgAgentStep_of_illegal {e : Illegal} (hmay : s.fgMayStep = true) (hf : s.fg = .idle)
    (hc : s.presented = some c) (hd : decode s.cfg.lenMax c.word c.payload = .error e) :
    fgAgentStep s = .next { s with fault := FaultCode.illegalCmd.bits } := by
  obtain ⟨hfault, -⟩ := State.fgMayStep_iff.mp hmay
  simp [fgAgentStep, State.fgMove, hmay, hf, hc, hd, State.raise, hfault]

/-- R79: the start step of a port command. -/
theorem exec_of_idle (hp : i.issuedBy = .port) (hmay : s.fgMayStep = true) (hf : s.fg = .idle) :
    exec i s = .next (s.goto i .l0 0) := by
  simp [exec_eq_fgStep hp, State.fgStep, hmay, hf]

/-- Settles O3: the list of R75, the two entry codes as cases of it, and the start step of a pair the decoder rejects. -/
theorem illegalCommandsAreRefused : Obligations.IllegalCommandsAreRefused :=
  ⟨fun _ _ _ => decode_eq_error_iff,
    fun _ _ => ⟨decode_eq_error_iff.mpr (.inr (.inl (by decide))),
      decode_eq_error_iff.mpr (.inr (.inr (.inl (by decide))))⟩,
    fun _ _ _ => fgAgentStep_of_illegal⟩

/-- Settles O20: the three ways nothing starts, the refusal, and the start. -/
theorem startStep : Obligations.StartStep := by
  refine fun s hf => ⟨?_, fun c hact hfault hc => ?_⟩
  · rintro (hact | hfault | hpast)
    · exact fgAgentStep_of_not_mayStep (by simp [State.fgMayStep, hact])
    · exact fgAgentStep_of_not_mayStep (by simp [State.fgMayStep, State.noFault, hfault])
    · exact fgAgentStep_of_presented_none hf (List.getElem?_eq_none hpast)
  · have hmay : s.fgMayStep = true := State.fgMayStep_iff.mpr ⟨hfault, hact⟩
    refine ⟨fun e hd => fgAgentStep_of_illegal hmay hf hc hd, fun i hd => ?_⟩
    obtain ⟨-, hp⟩ := decode_wf_port hd
    rw [fgAgentStep_of_decoded hmay hf hc hd]
    exact exec_of_idle hp hmay hf

/-! ## The move a step takes (R214) -/

theorem step_of_sched_cons (h : s.sched = m :: rest) : step s = moveStep m { s with sched := rest } := by
  simp [step, State.takeMove, h]

theorem step_of_sched_nil (h : s.sched = []) :
    step s = moveStep (Config.freeMove s.freeTick) { s with freeTick := s.freeTick + 1 } := by
  simp [step, State.takeMove, h]

/-- Settles O19: the scheduled agent makes its move, and FG's move is the one its state leaves it. -/
theorem stepRunsScheduledMove : Obligations.StepRunsScheduledMove := by
  refine fun s rest => ⟨fun hs hmay => ?_, step_of_sched_cons, step_of_sched_cons, fun e => step_of_sched_cons,
    step_of_sched_nil⟩
  have hdec : ∀ c i, s.fg = .idle → s.presented = some c → decode s.cfg.lenMax c.word c.payload = .ok i →
      step s = exec i { s with sched := rest } := fun c i hf hc hd =>
    (step_of_sched_cons hs).trans (fgAgentStep_of_decoded (s := { s with sched := rest }) hmay hf hc hd)
  refine ⟨fun i l n hf => ?_, hdec, fun c i hf hc hd => hdec c i hf hc ?_⟩
  · exact (step_of_sched_cons hs).trans (fgAgentStep_of_at (s := { s with sched := rest }) ⟨hmay, hf⟩)
  · rwa [decodeBytes_bytesOfWord] at hd

end Sys2Proof.Machine

/-! SUPPORT. Proofs of the statements about spec/40_ringbuffer.md: the primitives, the queue law of R106, what every step
does to the two instances, the RB commands and their frames, and the overrunning write. -/

namespace Sys2Proof.Machine

/-! ## The primitives and the unread elements (R100, R101, R105, R106) -/

section Queue

variable {w c : Nat} {rb rb' : Ring w} {l vs : List (BitVec w)} {v : BitVec w}

/-- R22: a full instance stores next to the slot it reads next. -/
theorem Ring.Legal.wr_eq_rd (h : rb.Legal c) (hf : rb.count = c) : rb.wr = rb.rd := by
  rw [h.wr_eq, hf, Nat.add_mod_right, Nat.mod_eq_of_lt h.rd_lt]

/-- Offsets fewer than `c` apart name different slots. -/
theorem slot_ne {r j k : Nat} (hjk : j < k) (hc : k - j < c) : (r + j) % c ≠ (r + k) % c := by
  intro e
  have hdvd : c ∣ k - j := (Nat.modEq_iff_dvd' hjk.le).mp (Nat.ModEq.add_left_cancel' r e)
  exact absurd (Nat.le_of_dvd (Nat.sub_pos_of_lt hjk) hdvd) (Nat.not_le.mpr hc)

/-- A store at `wr` puts its element behind the unread ones; only a full instance loses one by it, its oldest. -/
theorem Ring.Holds.read_write (hl : rb.Holds c l) (h : rb.Legal c) {k : Nat} (hk : rb.count < c ∨ 0 < k) {x : BitVec w}
    (hx : (l ++ [v])[k]? = some x) : (rb.store.write rb.wr v).read ((rb.rd + k) % c) = some x := by
  obtain ⟨hcount, hread⟩ := hl
  have hle := h.count_le
  obtain hlt | rfl : k < l.length ∨ k = l.length := by
    have := (List.getElem?_eq_some_iff.mp hx).1
    simp only [List.length_append, List.length_singleton] at this
    omega
  · rw [List.getElem?_append_left hlt] at hx
    rw [h.wr_eq, Memory.read_write_of_ne _ (slot_ne (by omega) (by omega))]
    exact hread k x hx
  · obtain rfl : v = x := by simpa using hx
    rw [h.wr_eq, hcount, Memory.read_write_same]

/-- R100: a push on a legal instance pushes onto the queue of its unread elements. -/
theorem Ring.Holds.push (hl : rb.Holds c l) (h : rb.Legal c) (hp : rb.push c v = .ok rb') :
    rb'.Holds c (pushQueue c l v) := by
  have hc : 0 < c := Nat.zero_lt_of_lt h.rd_lt
  obtain ⟨-, ⟨hf, rfl⟩ | ⟨hf, rfl⟩⟩ := Ring.push_eq_ok.mp hp
  · cases l with
    | nil => exact absurd (hl.1.symm.trans hf) hc.ne
    | cons a l =>
      rw [pushQueue, if_pos (hl.1.symm.trans hf)]
      refine ⟨by simpa using hl.1, fun k x hx => ?_⟩
      simpa [Nat.add_assoc, Nat.add_comm 1] using hl.read_write h (k := k + 1) (.inr k.succ_pos) hx
  · rw [pushQueue, if_neg (hl.1 ▸ hf)]
    refine ⟨by simpa using hl.1, fun k x hx => ?_⟩
    exact hl.read_write h (.inl (Nat.lt_of_le_of_ne h.count_le hf)) hx

/-- R101: a pop takes the head of the queue, or finds it empty. -/
theorem Ring.Holds.pop {y : Option (BitVec w) × Ring w} (hl : rb.Holds c l) (hp : rb.pop c = .ok y) :
    (l = [] ∧ y = (none, rb)) ∨ ∃ a l' rb', l = a :: l' ∧ y = (some a, rb') ∧ rb'.Holds c l' := by
  obtain ⟨hcount, hread⟩ := hl
  rcases Ring.pop_eq_ok.mp hp with ⟨h0, rfl⟩ | ⟨h0, hrd, v, hv, rfl⟩
  · exact .inl ⟨List.length_eq_zero_iff.mp (hcount.symm.trans h0), rfl⟩
  · cases l with
    | nil => exact absurd hcount h0
    | cons a l =>
      have ha : v = a := by simpa [Nat.mod_eq_of_lt hrd, hv] using hread 0 a rfl
      refine .inr ⟨a, l, _, rfl, by rw [ha], by simp [hcount], fun k x hx => ?_⟩
      simpa [Nat.add_assoc, Nat.add_comm 1] using hread (k + 1) x hx

theorem Ring.holds_nil (h0 : rb.count = 0) : rb.Holds c [] := ⟨h0, by simp⟩

/-- R106: however pushes and pops interleave, a legal instance is a queue. -/
theorem Ring.Legal.pushed (h : rb.Legal c) (hl : rb.Holds c l) (v : BitVec w) :
    ∃ rb', rb.push c v = .ok rb' ∧ rb'.Legal c ∧ rb'.Holds c (pushQueue c l v) := by
  obtain ⟨rb', hp, h'⟩ := h.push v
  exact ⟨rb', hp, h', hl.push h hp⟩

theorem Ring.Legal.popped {a : BitVec w} (h : rb.Legal c) (hl : rb.Holds c (a :: l)) :
    ∃ rb', rb.pop c = .ok (some a, rb') ∧ rb'.Legal c ∧ rb'.Holds c l := by
  obtain ⟨y, hp, h', -⟩ := h.pop
  obtain ⟨⟨⟩, -⟩ | ⟨_, _, rb', ⟨⟩, rfl, hl'⟩ := hl.pop hp
  exact ⟨rb', hp, h', hl'⟩

/-- Pushing a list leaves the queue its elements were pushed onto one by one. -/
theorem Ring.Legal.pushAll (h : rb.Legal c) (hl : rb.Holds c l) :
    ∃ rb', rb.pushAll c vs = .ok rb' ∧ rb'.Legal c ∧ rb'.Holds c (vs.foldl (pushQueue c) l) := by
  induction vs generalizing rb l with
  | nil => exact ⟨rb, rfl, h, hl⟩
  | cons v vs ih =>
    obtain ⟨rb₁, hp, h₁, hl₁⟩ := h.pushed hl v
    obtain ⟨rb', hps, h'⟩ := ih h₁ hl₁
    exact ⟨rb', by rw [Ring.pushAll, hp, bind_ok, hps], h'⟩

/-- Popping as often as there are unread elements returns them, oldest first. -/
theorem Ring.Legal.popMany (h : rb.Legal c) (hl : rb.Holds c l) :
    ∃ rb', Ring.popMany c l.length rb = .ok (l.map some, rb') ∧ rb'.count = 0 := by
  induction l generalizing rb with
  | nil => exact ⟨rb, rfl, hl.1⟩
  | cons a l ih =>
    obtain ⟨rb₁, hp, h₁, hl₁⟩ := h.popped hl
    obtain ⟨rb', hps, h0⟩ := ih h₁ hl₁
    exact ⟨rb', by rw [List.length_cons, Ring.popMany, hp, bind_ok, hps, bind_ok, List.map_cons], h0⟩

theorem lastOf_min {α : Type} (l : List α) : lastOf (min l.length c) l = l.drop (l.length - c) := by
  rw [lastOf, show l.length - min l.length c = l.length - c by omega]

theorem length_lastOf_min {α : Type} (l : List α) : (lastOf (min l.length c) l).length = min l.length c := by
  rw [lastOf, List.length_drop]
  omega

/-- A push onto a queue of at most `c` elements keeps the last `c` of what is then pushed. -/
theorem pushQueue_eq_drop {α : Type} {l : List α} (hc : 0 < c) (hle : l.length ≤ c) (v : α) :
    pushQueue c l v = (l ++ [v]).drop (l.length + 1 - c) := by
  by_cases hf : l.length = c
  · cases l with
    | nil => exact absurd hf hc.ne
    | cons a l => simp [pushQueue, ← hf]
  · simp [pushQueue, hf, show l.length + 1 - c = 0 by omega]

/-- R106, R158: of the elements a queue held and those pushed onto it, the last `c` stay. -/
theorem foldl_pushQueue {α : Type} {l : List α} (vs : List α) (hc : 0 < c) (hle : l.length ≤ c) :
    vs.foldl (pushQueue c) l = lastOf (min (l.length + vs.length) c) (l ++ vs) := by
  rw [← List.length_append, lastOf_min]
  induction vs generalizing l with
  | nil => simp [hle]
  | cons v vs ih =>
    have hlen : (pushQueue c l v).length ≤ c := by
      rw [pushQueue_eq_drop hc hle, List.length_drop, List.length_append, List.length_singleton]
      omega
    rw [List.foldl_cons, ih hlen, pushQueue_eq_drop hc hle,
      ← List.drop_append_of_le_length (by simp), List.drop_drop, List.append_assoc, List.singleton_append]
    congr 1
    simp only [List.length_append, List.length_drop, List.length_cons]
    omega

end Queue

/-- Settles O8: both branches of the primitive, and R22 for where a full instance stores. -/
theorem pushOverwritesOldest : Obligations.PushOverwritesOldest := fun _ _ _ v =>
  ⟨fun hw hf => Ring.push_eq_ok.mpr ⟨hw, .inl ⟨hf, rfl⟩⟩,
    fun hw hf => Ring.push_eq_ok.mpr ⟨hw, .inr ⟨hf, rfl⟩⟩,
    fun h => ⟨(h.push v).imp fun _ => And.left, h.wr_eq_rd⟩⟩

/-- Settles O9: the two ways the primitive answers. -/
theorem popTakesOldest : Obligations.PopTakesOldest := fun _ _ _ =>
  ⟨fun h0 => Ring.pop_eq_ok.mpr (.inl ⟨h0, rfl⟩),
    fun v h0 hrd hv => Ring.pop_eq_ok.mpr (.inr ⟨h0, hrd, v, hv, rfl⟩)⟩

/-- Settles O10: the count would be both `c` and 0. -/
theorem neverFullAndEmpty : Obligations.NeverFullAndEmpty := by
  rintro w c rb hc ⟨hfull, hempty⟩
  have hf : rb.count = c := by simpa [Ring.isFull] using hfull
  have h0 : rb.count = 0 := by simpa [Ring.isEmpty] using hempty
  omega

/-- Settles O11: a legal instance is a queue of its unread elements, and the queue keeps the last `c` pushed. -/
theorem lastPushesArePoppedInOrder : Obligations.LastPushesArePoppedInOrder := by
  refine ⟨fun w c rb vs h h0 => ?_, fun w c rb l h hl => ⟨h.pushed hl, ?_, ?_⟩⟩
  · have hc : 0 < c := Nat.zero_lt_of_lt h.rd_lt
    obtain ⟨rb₁, hpush, h₁, hl₁⟩ := h.pushAll (vs := vs) (Ring.holds_nil h0)
    rw [foldl_pushQueue (l := []) vs hc (Nat.zero_le c), List.nil_append, List.length_nil, Nat.zero_add] at hl₁
    obtain ⟨rb₂, hpops, h0₂⟩ := h₁.popMany hl₁
    rw [length_lastOf_min] at hpops
    exact ⟨rb₁, rb₂, hpush, hl₁, hpops, Ring.pop_eq_ok.mpr (.inl ⟨h0₂, rfl⟩)⟩
  · rintro rfl
    exact Ring.pop_eq_ok.mpr (.inl ⟨hl.1, rfl⟩)
  · rintro a l' rfl
    exact h.popped hl

end Sys2Proof.Machine

namespace Sys2Proof.Machine

variable {s t t' : State} {i : Instr} {l : Label} {n : Nat} {a : Agent}

/-! ## What a step of each agent does to the two instances (R104, R111) -/

/-- Everything a step from `s` to `t`, made by the agent named, can do to the two instances and to the wire. -/
inductive BufferEffect (s t : State) : Agent → Prop
  /-- Nothing. -/
  | kept {a : Agent} (htx : t.tx = s.tx) (hrx : t.rx = s.rx) (hwire : t.u.txWire = s.u.txWire) : BufferEffect s t a
  /-- FG pushes a byte into `tx` (RB.PUSH, W1). -/
  | pushed {rb rb' : Ring 8} {v : Byte} (hrb : s.tx = some rb) (hpush : rb.push s.cfg.cTx v = .ok rb')
      (htx : t.tx = some rb') (hrx : t.rx = s.rx) (hwire : t.u.txWire = s.u.txWire) : BufferEffect s t .fg
  /-- A drain iteration writes the byte it pops from `tx` to the wire (P2, T1). -/
  | sent {a : Agent} {rb rb' : Ring 8} {b : Byte} (hrb : s.tx = some rb)
      (hpop : rb.pop s.cfg.cTx = .ok (some b, rb')) (htx : t.tx = some rb') (hrx : t.rx = s.rx)
      (hwire : t.u.txWire = s.u.txWire ++ [b]) : BufferEffect s t a
  /-- FG returns the byte it pops from `rx` (GETC, RB.POP). -/
  | taken {rb rb' : Ring 8} {v : Byte} (hrb : s.rx = some rb) (hpop : rb.pop s.cfg.cRx = .ok (some v, rb'))
      (htx : t.tx = s.tx) (hrx : t.rx = some rb') (hwire : t.u.txWire = s.u.txWire)
      (hres : t.results = s.results ++ [.byte v] ∨ t.results = s.results ++ [.opt (some v)]) : BufferEffect s t .fg
  /-- RXI pushes the ready byte into `rx`. -/
  | received {rb rb' : Ring 8} {v : Byte} (hready : s.u.rxReady = true) (hdata : s.u.rxData = some v)
      (hrb : s.rx = some rb) (hpush : rb.push s.cfg.cRx v = .ok rb') (htx : t.tx = s.tx) (hrx : t.rx = some rb')
      (hwire : t.u.txWire = s.u.txWire) (hconsumed : t.u.rxReady = false) : BufferEffect s t .rxi
  /-- CTOR constructs both on an unconstructed port. -/
  | constructed (hlife : s.life = false) (htx : t.tx = some Ring.constructed) (hrx : t.rx = some Ring.constructed) :
      BufferEffect s t .fg
  /-- DTOR releases both. -/
  | released (htx : t.tx = none) (hrx : t.rx = none) : BufferEffect s t .fg

/-- The effect is one on the instances, the UART and the result log. -/
theorem BufferEffect.congr (h : BufferEffect s t a) (htx : t'.tx = t.tx) (hrx : t'.rx = t.rx) (hu : t'.u = t.u)
    (hres : t'.results = t.results) : BufferEffect s t' a := by
  cases h with
  | kept h₁ h₂ h₃ => exact .kept (htx.trans h₁) (hrx.trans h₂) (hu ▸ h₃)
  | pushed hrb hp h₁ h₂ h₃ => exact .pushed hrb hp (htx.trans h₁) (hrx.trans h₂) (hu ▸ h₃)
  | sent hrb hp h₁ h₂ h₃ => exact .sent hrb hp (htx.trans h₁) (hrx.trans h₂) (hu ▸ h₃)
  | taken hrb hp h₁ h₂ h₃ h₄ => exact .taken hrb hp (htx.trans h₁) (hrx.trans h₂) (hu ▸ h₃) (hres ▸ h₄)
  | received hr hd hrb hp h₁ h₂ h₃ h₄ =>
    exact .received hr hd hrb hp (htx.trans h₁) (hrx.trans h₂) (hu ▸ h₃) (hu ▸ h₄)
  | constructed hl h₁ h₂ => exact .constructed hl (htx.trans h₁) (hrx.trans h₂)
  | released h₁ h₂ => exact .released (htx.trans h₁) (hrx.trans h₂)

/-- R101: a pop on the port leaves the state where there was nothing to pop, and else moves the instance on. -/
theorem State.pop_cases {r : Inst} {x : Option Byte × State} (h : s.pop r = .ok x) :
    x = (none, s) ∨ ∃ v rb rb', s.instance? r = some rb ∧ rb.pop (s.capacity r) = .ok (some v, rb') ∧
      x = (some v, s.setInstance r rb') := by
  obtain ⟨rb, y, hrb, hy, rfl⟩ := State.pop_eq_ok.mp h
  obtain ⟨-, rfl⟩ | ⟨-, -, v, -, rfl⟩ := Ring.pop_eq_ok.mp hy
  · exact .inl (by rw [State.setInstance_self hrb])
  · exact .inr ⟨v, rb, _, hrb, hy, rfl⟩

/-- R120: a drain iteration sends the oldest byte of `tx`, or leaves both instances and the wire. -/
theorem drainIter_bufferEffect (s : State) (a : Agent) : Yields (fun x => BufferEffect s x.1 a) s.drainIter := by
  refine yields_iff.mpr fun x h => ?_
  obtain ⟨-, rfl⟩ | ⟨-, y, hy, h⟩ := State.drainIter_eq_ok.mp h
  · exact .kept rfl rfl rfl
  · obtain rfl | ⟨v, rb, rb', hrb, hp, rfl⟩ := State.pop_cases hy
    · obtain ⟨-, rfl⟩ | ⟨_, _, ⟨⟩, -, -⟩ := h
      exact .kept rfl rfl rfl
    · obtain ⟨⟨⟩, -⟩ | ⟨_, _, ⟨⟩, hw, rfl⟩ := h
      obtain ⟨-, rfl⟩ := State.uartWrite_eq_ok.mp hw
      exact .sent hrb hp (by simp) (by simp) rfl

theorem primeStep_bufferEffect (s : State) (i : Instr) (k l : Label) (n : Nat) :
    Yields (BufferEffect s · .fg) (primeStep i k l n s) := by
  cases l with
  | p0 | p1 | p3 => exact .kept rfl rfl rfl
  | p2 => exact (drainIter_bufferEffect s .fg).bind fun _ hx => hx.congr rfl rfl rfl rfl
  | _ => trivial

theorem primeCmdStep_bufferEffect (s : State) (l : Label) (n : Nat) :
    Yields (BufferEffect s · .fg) (primeCmdStep s l n) := by
  by_cases h0 : l = .l0
  · subst h0
    exact .after fun _ => .kept rfl rfl rfl
  · by_cases hk : l = .k1
    · subst hk
      exact .kept rfl rfl rfl
    · rw [primeCmdStep_eq_primeStep h0 hk]
      exact primeStep_bufferEffect s .prime .k1 l n

theorem enqueueByte_bufferEffect (s : State) (i : Instr) (bs : List Byte) (n : Nat) :
    Yields (BufferEffect s · .fg) (enqueueByte i bs n s) := by
  refine .after fun wait => ?_
  cases wait with
  | true => trivial
  | false =>
    cases hb : bs[n]? with
    | none => trivial
    | some b =>
      refine (yields_iff.mpr fun _ => State.push_eq_ok.mp).bind ?_
      rintro _ ⟨rb, rb', hrb, hp, rfl⟩
      exact .pushed hrb hp rfl rfl rfl

theorem enqueueStep_bufferEffect (s : State) (i : Instr) (bs : List Byte) (res : Result) (l : Label) (n : Nat) :
    Yields (BufferEffect s · .fg) (enqueueStep i bs res l n s) := by
  by_cases h1 : l = .w1
  · subst h1
    exact enqueueByte_bufferEffect s i bs n
  · by_cases h9 : l = .w9
    · subst h9
      exact .kept rfl rfl rfl
    · rw [enqueueStep_eq_primeStep h1 h9]
      exact primeStep_bufferEffect s i .w9 l n

theorem writeFamily_bufferEffect (hi : i.isWriteFamily = true) (s : State) (l : Label) (n : Nat) :
    Yields (BufferEffect s · .fg) (portStep i s l n) := by
  rw [portStep_writeFamily hi]
  split
  · exact atL0_yields l n (.after fun _ => .kept rfl rfl rfl)
  · split
    · exact .after fun _ => .kept rfl rfl rfl
    · exact enqueueStep_bufferEffect s i _ _ l n

/-- R107: only `tx` is pushed into. -/
theorem rbPushStep_bufferEffect (r : Inst) (d : Byte) (s : State) :
    Yields (BufferEffect s · .fg) (rbPushStep r d s) := by
  refine .after fun _ => ?_
  cases r with
  | tx =>
    refine (yields_iff.mpr fun _ => State.push_eq_ok.mp).bind ?_
    rintro _ ⟨rb, rb', hrb, hp, rfl⟩
    exact .pushed hrb hp rfl rfl rfl
  | rx => trivial

/-- R108: only `rx` is popped from. -/
theorem rbPopStep_bufferEffect (r : Inst) (s : State) : Yields (BufferEffect s · .fg) (rbPopStep r s) := by
  refine .after fun _ => ?_
  cases r with
  | tx => trivial
  | rx =>
    refine (yields_iff.mpr fun _ => State.pop_cases).bind ?_
    rintro _ (rfl | ⟨v, rb, rb', hrb, hp, rfl⟩)
    · exact .kept rfl rfl rfl
    · exact .taken hrb hp rfl rfl rfl (.inr rfl)

theorem getcStep_bufferEffect (s : State) : Yields (BufferEffect s · .fg) (getcStep s) := by
  refine .after fun _ => (yields_iff.mpr fun _ => State.pop_cases).bind ?_
  rintro _ (rfl | ⟨v, rb, rb', hrb, hp, rfl⟩)
  · trivial
  · exact .taken hrb hp rfl rfl rfl (.inl rfl)

theorem syncStep_bufferEffect (s : State) (l : Label) (n : Nat) : Yields (BufferEffect s · .fg) (syncStep s l n) := by
  cases l with
  | l0 => exact .after fun _ => .kept rfl rfl rfl
  | s1 =>
    refine .after fun b => ?_
    cases b with
    | true => exact .kept rfl rfl rfl
    | false => trivial
  | _ => trivial

theorem portStep_bufferEffect (i : Instr) (s : State) (l : Label) (n : Nat) :
    Yields (BufferEffect s · .fg) (portStep i s l n) := by
  cases i with
  | rbPush r d => exact atL0_yields l n (rbPushStep_bufferEffect r d s)
  | rbPop r => exact atL0_yields l n (rbPopStep_bufferEffect r s)
  | rbEmpty _ | rbFull _ | readable => exact atL0_yields l n (.after fun _ => .after fun _ => .kept rfl rfl rfl)
  | prime => exact primeCmdStep_bufferEffect s l n
  | putc _ | puts _ | write _ => exact writeFamily_bufferEffect rfl s l n
  | getc => exact atL0_yields l n (getcStep_bufferEffect s)
  | sync => exact syncStep_bufferEffect s l n
  | ctor b =>
    refine atL0_yields l n (yields_iff.mpr fun _ h => ?_)
    obtain ⟨hlife, rfl⟩ := ctorStep_eq_ok.mp h
    exact .constructed hlife rfl rfl
  | dtor => exact atL0_yields l n (.after fun _ => .released rfl rfl)
  | txisr | rxisr => trivial

theorem txServiceStep_bufferEffect (s : State) : Yields (BufferEffect s · .txi) (txServiceStep s) :=
  (drainIter_bufferEffect s .txi).bind fun ⟨_, d⟩ hx => by
    cases d with
    | goOn => exact hx
    | exit => exact hx.congr rfl rfl rfl rfl

theorem rxServiceStep_bufferEffect (s : State) : Yields (BufferEffect s · .rxi) (rxServiceStep s) := by
  refine yields_iff.mpr fun t h => ?_
  obtain ⟨x, hx, ht⟩ := bind_eq_ok.mp h
  obtain ⟨hready, v, hdata, rfl⟩ := State.uartRead_eq_ok.mp hx
  obtain ⟨rb, rb', hrb, hp, rfl⟩ := State.push_eq_ok.mp ht
  exact .received hready hdata hrb hp rfl rfl rfl rfl

theorem settle_bufferEffect {x : Except Stop State} (hx : Yields (BufferEffect s · a) x) (h : s.settle x = .next t) :
    BufferEffect s t a := by
  rcases State.settle_eq_next.mp h with rfl | ⟨-, rfl⟩ | ⟨k, -, rfl⟩
  · exact hx
  · exact .kept rfl rfl rfl
  · exact .kept (s.raise_tx k) (s.raise_rx k) (by rw [s.raise_u])

/-- R221, R223: no environment step writes the wire. -/
theorem envStep_txWire (s : State) (e : EnvStep) : (s.envStep e).u.txWire = s.u.txWire := by
  cases e with
  | txFall => cases h : s.cfg.txReadyMayFall <;> simp [State.envStep, Uart.envStep, h]
  | txRise | rxDeliver _ => rfl

theorem fgAgentStep_bufferEffect (hinv : s.Inv) (h : fgAgentStep s = .next t) : BufferEffect s t .fg := by
  rcases fgAgentStep_cases s with ⟨-, e⟩ | ⟨c, -, -, -, ⟨_, -, e⟩ | ⟨i, -, e⟩⟩ | ⟨i, l, n, hat, e⟩
  · cases e.symm.trans h
    exact .kept rfl rfl rfl
  · cases e.symm.trans h
    exact .kept (s.raise_tx _) (s.raise_rx _) (by rw [s.raise_u])
  · cases e.symm.trans h
    exact .kept rfl rfl rfl
  · rw [e, exec_of_at (hinv.busyLegal hat.2).port hat] at h
    exact settle_bufferEffect (portStep_bufferEffect i s l n) h

theorem moveStep_bufferEffect {m : Move} (hinv : s.Inv) (h : moveStep m s = .next t) : BufferEffect s t m.agent := by
  cases m with
  | fg => exact fgAgentStep_bufferEffect hinv h
  | txi =>
    rcases exec_txisr_eq_next.mp h with ⟨-, h⟩ | ⟨-, -, rfl⟩ | ⟨-, -, rfl⟩
    · exact settle_bufferEffect (txServiceStep_bufferEffect s) h
    · exact .kept rfl rfl rfl
    · exact .kept rfl rfl rfl
  | rxi =>
    rcases exec_rxisr_eq_next.mp h with ⟨-, h⟩ | ⟨-, rfl⟩
    · exact settle_bufferEffect (rxServiceStep_bufferEffect s) h
    · exact .kept rfl rfl rfl
  | env e =>
    cases h
    exact .kept rfl rfl (envStep_txWire s e)

theorem Move.agent_eq_fg {m : Move} : m.agent = .fg ↔ m = .fg := by
  cases m <;> simp [Move.agent]

theorem Move.agent_eq_rxi {m : Move} : m.agent = .rxi ↔ m = .rxi := by
  cases m <;> simp [Move.agent]

/-! ## The unread bytes of `tx` and `rx` keep their order (R106, R125, R142) -/

theorem State.Inv.life_of_tx (h : s.Inv) {rb : Ring 8} (hrb : s.tx = some rb) : s.life = true := by
  simpa [hrb] using h.txLife.symm

theorem State.Inv.life_of_rx (h : s.Inv) {rb : Ring 8} (hrb : s.rx = some rb) : s.life = true := by
  simpa [hrb] using h.rxLife.symm

/-- The queue of `tx` and the wire through one step. -/
theorem BufferEffect.txQueue {rb rb' : Ring 8} {q : List Byte} (h : BufferEffect s t a) (hinv : s.Inv)
    (hrb : s.tx = some rb) (hrb' : t.tx = some rb') (hq : rb.Holds s.cfg.cTx q) :
    ∃ q', rb'.Holds s.cfg.cTx q' ∧
      ((q' = q ∧ t.u.txWire = s.u.txWire) ∨
       (a = .fg ∧ (∃ v, q' = pushQueue s.cfg.cTx q v) ∧ t.u.txWire = s.u.txWire) ∨
       ∃ b, q = b :: q' ∧ t.u.txWire = s.u.txWire ++ [b]) := by
  cases h with
  | kept htx _ hwire | taken _ _ htx _ hwire | received _ _ _ _ htx _ hwire =>
    obtain rfl : rb = rb' := by simpa [hrb, hrb'] using htx.symm
    exact ⟨q, hq, .inl ⟨rfl, hwire⟩⟩
  | @pushed rb₁ rb₂ v hrb₁ hp htx _ hwire =>
    obtain rfl : rb = rb₁ := by simpa [hrb] using hrb₁
    obtain rfl : rb' = rb₂ := by simpa [hrb'] using htx
    exact ⟨_, hq.push (hinv.txLegal rb hrb) hp, .inr (.inl ⟨rfl, ⟨v, rfl⟩, hwire⟩)⟩
  | @sent _ rb₁ rb₂ b hrb₁ hp htx _ hwire =>
    obtain rfl : rb = rb₁ := by simpa [hrb] using hrb₁
    obtain rfl : rb' = rb₂ := by simpa [hrb'] using htx
    obtain ⟨-, ⟨⟩⟩ | ⟨_, q', _, rfl, ⟨⟩, hq'⟩ := hq.pop hp
    exact ⟨q', hq', .inr (.inr ⟨b, rfl, hwire⟩)⟩
  | constructed hlife => exact absurd ((hinv.life_of_tx hrb).symm.trans hlife) (by simp)
  | released htx => cases htx.symm.trans hrb'

/-- The queue of `rx` and the result log through one step. -/
theorem BufferEffect.rxQueue {rb rb' : Ring 8} {q : List Byte} (h : BufferEffect s t a) (hinv : s.Inv)
    (hrb : s.rx = some rb) (hrb' : t.rx = some rb') (hq : rb.Holds s.cfg.cRx q) :
    ∃ q', rb'.Holds s.cfg.cRx q' ∧
      (q' = q ∨
       (a = .rxi ∧ ∃ v, s.u.rxReady = true ∧ s.u.rxData = some v ∧ q' = pushQueue s.cfg.cRx q v ∧
         t.u.rxReady = false) ∨
       (a = .fg ∧ ∃ v, q = v :: q' ∧
         (t.results = s.results ++ [.byte v] ∨ t.results = s.results ++ [.opt (some v)]))) := by
  cases h with
  | kept _ hrx | pushed _ _ _ hrx | sent _ _ _ hrx =>
    obtain rfl : rb = rb' := by simpa [hrb, hrb'] using hrx.symm
    exact ⟨q, hq, .inl rfl⟩
  | @received rb₁ rb₂ v hready hdata hrb₁ hp _ hrx _ hconsumed =>
    obtain rfl : rb = rb₁ := by simpa [hrb] using hrb₁
    obtain rfl : rb' = rb₂ := by simpa [hrb'] using hrx
    exact ⟨_, hq.push (hinv.rxLegal rb hrb) hp, .inr (.inl ⟨rfl, v, hready, hdata, rfl, hconsumed⟩)⟩
  | @taken rb₁ rb₂ v hrb₁ hp _ hrx _ hres =>
    obtain rfl : rb = rb₁ := by simpa [hrb] using hrb₁
    obtain rfl : rb' = rb₂ := by simpa [hrb'] using hrx
    obtain ⟨-, ⟨⟩⟩ | ⟨_, q', _, rfl, ⟨⟩, hq'⟩ := hq.pop hp
    exact ⟨q', hq', .inr (.inr ⟨rfl, v, rfl, hres⟩)⟩
  | constructed hlife => exact absurd ((hinv.life_of_rx hrb).symm.trans hlife) (by simp)
  | released _ hrx => cases hrx.symm.trans hrb'

/-- Settles O45: whichever agent moves, its step has one of the effects, and each moves the queue of `tx` as stated. -/
theorem transmitBytesKeepTheirOrder : Obligations.TransmitBytesKeepTheirOrder := by
  intro s t rb rb' q hinv hst hrb hrb' hq
  have hinv' : s.takeMove.2.Inv := hinv.of_sameBlock s.takeMove_sameBlock
  simpa [Move.agent_eq_fg] using
    (moveStep_bufferEffect hinv' hst).txQueue hinv' (by simpa using hrb) hrb' (by simpa using hq)

/-- Settles O46: the same effects, and what each does to the queue of `rx`. -/
theorem receivedBytesKeepTheirOrder : Obligations.ReceivedBytesKeepTheirOrder := by
  intro s t rb rb' q hinv hst hrb hrb' hq
  have hinv' : s.takeMove.2.Inv := hinv.of_sameBlock s.takeMove_sameBlock
  simpa [Move.agent_eq_fg, Move.agent_eq_rxi] using
    (moveStep_bufferEffect hinv' hst).rxQueue hinv' (by simpa using hrb) hrb' (by simpa using hq)

end Sys2Proof.Machine

namespace Sys2Proof.Machine

variable {s t : State} {i : Instr} {l : Label} {n : Nat}

/-! ## The RB commands and the queries (R107 to R110, R155) -/

/-- R200: where FG may step no fault is recorded yet. -/
theorem settle_raise_of_mayStep (h : s.fgMayStep = true) (k : FaultCode) :
    s.settle (.error (.raise k)) = .next { s with fault := k.bits } := by
  obtain ⟨hfault, -⟩ := State.fgMayStep_iff.mp h
  simp [State.settle, State.raise, hfault]

@[simp] theorem requireLife_of_life (h : s.life = true) : s.requireLife = .ok () := State.requireLife_eq_ok.mpr h

@[simp] theorem requireLife_of_not_life (h : s.life = false) : s.requireLife = .error (.raise .lifecycle) := by
  simp [State.requireLife, h]

/-- R205: the first check of every port command but CTOR. -/
theorem portStep_l0_of_not_life (hp : i.issuedBy = .port) (hc : ∀ b, i ≠ .ctor b) (h : s.life = false) :
    portStep i s .l0 n = .error (.raise .lifecycle) := by
  have hreq := requireLife_of_not_life h
  cases i with
  | putc _ | puts _ | write _ =>
    rw [portStep_writeFamily rfl]
    split <;> simp [atL0, noOpWrite, enterEnqueue, hreq]
  | rbPush r d => simp [portStep, atL0, rbPushStep, hreq]
  | rbPop r => simp [portStep, atL0, rbPopStep, hreq]
  | rbEmpty r => simp [portStep, atL0, rbEmptyStep, hreq]
  | rbFull r => simp [portStep, atL0, rbFullStep, hreq]
  | prime => simp [portStep, primeCmdStep, hreq]
  | getc => simp [portStep, atL0, getcStep, hreq]
  | readable => simp [portStep, atL0, readableStep, hreq]
  | sync => simp [portStep, syncStep, hreq]
  | dtor => simp [portStep, atL0, dtorStep, hreq]
  | ctor b => exact absurd rfl (hc b)
  | txisr | rxisr => cases hp

/-- A port command whose micro-step answers makes that answer its next state. -/
theorem exec_of_portStep_eq_ok (hp : i.issuedBy = .port) (hat : s.At i l n) (h : portStep i s l n = .ok t) :
    exec i s = .next t := by
  rw [exec_of_at hp hat, h, State.settle]

/-- A port command whose micro-step raises a fault records it and changes nothing else. -/
theorem exec_of_portStep_eq_raise {k : FaultCode} (hp : i.issuedBy = .port) (hat : s.At i l n)
    (h : portStep i s l n = .error (.raise k)) : exec i s = .next { s with fault := k.bits } := by
  rw [exec_of_at hp hat, h, settle_raise_of_mayStep hat.1]

/-- R205. -/
theorem exec_of_not_life (hp : i.issuedBy = .port) (hc : ∀ b, i ≠ .ctor b) (hat : s.At i .l0 n) (h : s.life = false) :
    exec i s = .next { s with fault := FaultCode.lifecycle.bits } :=
  exec_of_portStep_eq_raise hp hat (portStep_l0_of_not_life hp hc h)

/-- R100: a push answers as soon as the slot it stores to is there. -/
theorem Ring.push_of_wr_lt {w c : Nat} {rb : Ring w} (h : rb.wr < c) (v : BitVec w) : ∃ rb', rb.push c v = .ok rb' := by
  by_cases hf : rb.count = c
  · exact ⟨_, Ring.push_eq_ok.mpr ⟨h, .inl ⟨hf, rfl⟩⟩⟩
  · exact ⟨_, Ring.push_eq_ok.mpr ⟨h, .inr ⟨hf, rfl⟩⟩⟩

theorem State.push_tx {rb rb' : Ring 8} {v : Byte} (hrb : s.tx = some rb) (hp : rb.push s.cfg.cTx v = .ok rb') :
    s.push .tx v = .ok (s.setInstance .tx rb') :=
  State.push_eq_ok.mpr ⟨rb, rb', hrb, hp, rfl⟩

theorem State.pop_rx {rb : Ring 8} {y : Option Byte × Ring 8} (hrb : s.rx = some rb)
    (hp : rb.pop s.cfg.cRx = .ok y) : s.pop .rx = .ok (y.1, s.setInstance .rx y.2) :=
  State.pop_eq_ok.mpr ⟨rb, y, hrb, hp, rfl⟩

/-- R107: format RBD. -/
theorem decode_rbPush (lenMax : Nat) (d : Byte) : decode lenMax (0x10#8 ++ d) .none = .ok (.rbPush .tx d) ∧
    decode lenMax (0x18#8 ++ d) .none = .ok (.rbPush .rx d) := by
  constructor <;> refine decode_eq_ok_iff.mpr ⟨?_, rfl, rfl⟩ <;>
    simp [encode, mkWord, Instr.opcode, Instr.sBit, bitOfInst, Instr.dByte, Instr.payload]

/-- Settles O23: the two checks and the push. -/
theorem rbPushStoresByte : Obligations.RbPushStoresByte := by
  refine ⟨decode_rbPush, fun s d n =>
    ⟨fun r => exec_of_not_life rfl nofun, fun hat hlife => ?_, fun rb hat hlife hrb hwr => ?_⟩⟩
  · exact exec_of_portStep_eq_raise rfl hat (by simp [portStep, atL0, rbPushStep, hlife, requireRole, mayPush])
  · obtain ⟨rb', hp⟩ := Ring.push_of_wr_lt hwr d
    have hpush := State.push_tx hrb hp
    have hstep : portStep (.rbPush .tx d) s .l0 n = .ok ((s.setInstance .tx rb').complete .none) := by
      simp [portStep, atL0, rbPushStep, hlife, requireRole, mayPush, hpush]
    exact ⟨rb', hp, exec_of_portStep_eq_ok rfl hat hstep⟩

/-- R108: RB.POP on `rx` is the pop with its answer as the result. -/
theorem portStep_rbPop_rx {x : Option Byte × State} (hlife : s.life = true) (hpop : s.pop .rx = .ok x) :
    portStep (.rbPop .rx) s .l0 n = .ok (x.2.complete (.opt x.1)) := by
  simp [portStep, atL0, rbPopStep, hlife, requireRole, mayPop, hpop]

/-- Settles O24: the two checks, the empty pop and the pop. -/
theorem rbPopTakesByte : Obligations.RbPopTakesByte := by
  refine ⟨fun lenMax => ⟨decode_eq_ok_iff.mpr ⟨by decide, rfl, rfl⟩, decode_eq_ok_iff.mpr ⟨by decide, rfl, rfl⟩⟩,
    fun s n => ⟨fun r => exec_of_not_life rfl nofun, fun hat hlife => ?_, fun rb hat hlife hrb h0 => ?_,
      fun rb v hat hlife hrb h0 hrd hv => ?_⟩⟩
  · exact exec_of_portStep_eq_raise rfl hat (by simp [portStep, atL0, rbPopStep, hlife, requireRole, mayPop])
  · have hpop := State.pop_rx hrb (Ring.pop_eq_ok.mpr (.inl ⟨h0, rfl⟩))
    rw [State.setInstance_self (r := .rx) hrb] at hpop
    exact exec_of_portStep_eq_ok rfl hat (portStep_rbPop_rx hlife hpop)
  · have hpop := State.pop_rx hrb (Ring.pop_eq_ok.mpr (.inr ⟨h0, hrd, v, hv, rfl⟩))
    exact exec_of_portStep_eq_ok rfl hat (portStep_rbPop_rx hlife hpop)

/-- Settles O25: the lifecycle check, and the answer each query reads off the count. -/
theorem queriesAnswer : Obligations.QueriesAnswer := by
  refine ⟨fun lenMax => ?_, fun s r rb n => ⟨fun hlife => ?_, fun hlife hrb hat => ?_, fun hlife hrb hat => ?_,
    fun hlife hrb hat => ?_⟩⟩
  · refine ⟨?_, ?_, ?_, ?_, ?_⟩ <;> exact decode_eq_ok_iff.mpr ⟨by decide, rfl, rfl⟩
  · exact ⟨fun hat => exec_of_not_life rfl nofun hat hlife, fun hat => exec_of_not_life rfl nofun hat hlife,
      fun hat => exec_of_not_life rfl nofun hat hlife⟩
  · have hq : s.ringEmpty r = .ok (decide (rb.count = 0)) := State.ringEmpty_eq_ok.mpr ⟨rb, hrb, rfl⟩
    have hstep : portStep (.rbEmpty r) s .l0 n = .ok (s.complete (.bool (decide (rb.count = 0)))) := by
      simp [portStep, atL0, rbEmptyStep, hlife, hq]
    exact exec_of_portStep_eq_ok rfl hat hstep
  · have hq : s.ringFull r = .ok (decide (rb.count = s.capacity r)) := State.ringFull_eq_ok.mpr ⟨rb, hrb, rfl⟩
    have hstep : portStep (.rbFull r) s .l0 n = .ok (s.complete (.bool (decide (rb.count = s.capacity r)))) := by
      simp [portStep, atL0, rbFullStep, hlife, hq]
    exact exec_of_portStep_eq_ok rfl hat hstep
  · have hq : s.ringEmpty .rx = .ok (decide (rb.count = 0)) := State.ringEmpty_eq_ok.mpr ⟨rb, hrb, rfl⟩
    have hstep : portStep .readable s .l0 n = .ok (s.complete (.bool (decide (rb.count ≠ 0)))) := by
      simp [portStep, atL0, readableStep, hlife, hq]
    exact exec_of_portStep_eq_ok rfl hat hstep

/-! ## Frames of the queries, the reads and RB.PUSH -/

/-- Nothing differs but the foreground's bookkeeping and FAULT. -/
def State.SameButFg (s t : State) : Prop :=
  t = { s with fault := t.fault, fg := t.fg, cpc := t.cpc, results := t.results }

theorem State.raise_sameButFg (s : State) (k : FaultCode) : s.SameButFg (s.raise k) := by
  unfold State.raise
  split <;> rfl

theorem State.SameButFg.slot_eq (h : s.SameButFg t) (r : Inst) (a : Nat) : t.slot r a = s.slot r a := by
  rw [h]
  cases r <;> rfl

/-- A port command's frame is that of its micro-steps: holding, starting and raising write bookkeeping only. -/
theorem exec_frame {P : State → Prop} (hp : i.issuedBy = .port) (hbook : ∀ t, s.SameButFg t → P t)
    (hstep : ∀ l n, Yields P (portStep i s l n)) (h : exec i s = .next t) : P t := by
  rw [exec_eq_fgStep hp] at h
  rcases State.fgStep_eq_next.mp h with ⟨-, rfl⟩ | ⟨-, -, rfl⟩ | ⟨-, j, l, n, -, ⟨-, rfl⟩ | ⟨-, h⟩⟩
  · exact hbook _ rfl
  · exact hbook _ rfl
  · exact hbook _ rfl
  · rcases State.settle_eq_next.mp h with hok | ⟨-, rfl⟩ | ⟨k, -, rfl⟩
    · exact yields_iff.mp (hstep l n) t hok
    · exact hbook _ rfl
    · exact hbook _ (s.raise_sameButFg k)

theorem syncStep_sameButFg (s : State) (l : Label) (n : Nat) : Yields s.SameButFg (syncStep s l n) := by
  cases l with
  | l0 => exact .after fun _ => rfl
  | s1 =>
    refine .after fun b => ?_
    cases b with
    | true => exact rfl
    | false => trivial
  | _ => trivial

theorem rbEmptyStep_sameButFg (r : Inst) (s : State) : Yields s.SameButFg (rbEmptyStep r s) :=
  .after fun _ => .after fun _ => rfl

theorem rbFullStep_sameButFg (r : Inst) (s : State) : Yields s.SameButFg (rbFullStep r s) :=
  .after fun _ => .after fun _ => rfl

theorem readableStep_sameButFg (s : State) : Yields s.SameButFg (readableStep s) :=
  .after fun _ => .after fun _ => rfl

/-- Settles O51: the micro-steps of the four queries complete or go to a label, and write nothing else. -/
theorem queryFrame : Obligations.QueryFrame := by
  intro s t i r hi h
  have hframe : s.SameButFg t := by
    rcases hi with rfl | rfl | rfl | rfl
    · exact exec_frame (i := .rbEmpty r) rfl (fun _ => id) (fun l n => atL0_yields l n (rbEmptyStep_sameButFg r s)) h
    · exact exec_frame (i := .rbFull r) rfl (fun _ => id) (fun l n => atL0_yields l n (rbFullStep_sameButFg r s)) h
    · exact exec_frame (i := .readable) rfl (fun _ => id) (fun l n => atL0_yields l n (readableStep_sameButFg s)) h
    · exact exec_frame (i := .sync) rfl (fun _ => id) (syncStep_sameButFg s) h
  exact ⟨hframe, hframe.slot_eq⟩

/-- What RB.POP and GETC leave unchanged: all but the read side of `rx` and the bookkeeping. -/
def State.ReadFrame (s t : State) : Prop :=
  t = { s with fault := t.fault, fg := t.fg, cpc := t.cpc, results := t.results, rx := t.rx } ∧
  t.rx.map Ring.wr = s.rx.map Ring.wr ∧ ∀ q a, t.slot q a = s.slot q a

theorem State.SameButFg.readFrame (h : s.SameButFg t) : s.ReadFrame t := by
  refine ⟨?_, ?_, h.slot_eq⟩
  · rw [h]
  · rw [h]

/-- R101: a pop stores nothing, and leaves the write index. -/
theorem Ring.pop_store_wr {w c : Nat} {rb : Ring w} {y : Option (BitVec w) × Ring w} (h : rb.pop c = .ok y) :
    y.2.store = rb.store ∧ y.2.wr = rb.wr := by
  obtain ⟨-, rfl⟩ | ⟨-, -, v, -, rfl⟩ := Ring.pop_eq_ok.mp h <;> exact ⟨rfl, rfl⟩

theorem popRx_readFrame (r : Result) {x : Option Byte × State} (h : s.pop .rx = .ok x) :
    s.ReadFrame (x.2.complete r) := by
  obtain ⟨rb, y, hrb, hy, rfl⟩ := State.pop_eq_ok.mp h
  obtain ⟨hstore, hwr⟩ := Ring.pop_store_wr hy
  have hrx : s.rx = some rb := hrb
  refine ⟨rfl, by simp [hrx, hwr], fun q a => ?_⟩
  cases q with
  | tx => rfl
  | rx => simp [State.slot, hrx, hstore]

theorem rbPopStep_readFrame (r : Inst) (s : State) : Yields s.ReadFrame (rbPopStep r s) := by
  refine .after fun _ => ?_
  cases r with
  | tx => trivial
  | rx => exact .after fun _ => (yields_iff.mpr fun _ => id).bind fun _ hx => popRx_readFrame _ hx

theorem getcStep_readFrame (s : State) : Yields s.ReadFrame (getcStep s) :=
  .after fun _ => (yields_iff.mpr fun _ => id).bind fun ⟨o, _⟩ hx => by
    cases o with
    | none => trivial
    | some v => exact popRx_readFrame _ hx

/-- Settles O52: both commands pop `rx` and complete, or leave bookkeeping only. -/
theorem readFrame : Obligations.ReadFrame := by
  intro s t i r hi h
  have hbook : ∀ t, s.SameButFg t → s.ReadFrame t := fun _ => State.SameButFg.readFrame
  rcases hi with rfl | rfl
  · exact exec_frame (i := .rbPop r) rfl hbook (fun l n => atL0_yields l n (rbPopStep_readFrame r s)) h
  · exact exec_frame (i := .getc) rfl hbook (fun l n => atL0_yields l n (getcStep_readFrame s)) h

/-- What RB.PUSH leaves unchanged: all but `tx`, the bookkeeping, and in `tx` every slot but the one `tx.wr` names. -/
def State.PushFrame (s t : State) : Prop :=
  t = { s with fault := t.fault, fg := t.fg, cpc := t.cpc, results := t.results, tx := t.tx } ∧
  (∀ a, t.slot .rx a = s.slot .rx a) ∧ ∀ a, s.storeSlot .tx ≠ some a → t.slot .tx a = s.slot .tx a

theorem State.SameButFg.pushFrame (h : s.SameButFg t) : s.PushFrame t := by
  refine ⟨?_, h.slot_eq .rx, fun a _ => h.slot_eq .tx a⟩
  rw [h]

/-- R100: a push stores to the slot `wr` names only. -/
theorem Ring.push_read_of_ne {w c : Nat} {rb rb' : Ring w} {v : BitVec w} (h : rb.push c v = .ok rb') {a : Nat}
    (ha : a ≠ rb.wr) : rb'.store.read a = rb.store.read a := by
  obtain ⟨-, ⟨-, rfl⟩ | ⟨-, rfl⟩⟩ := Ring.push_eq_ok.mp h <;> exact Memory.read_write_of_ne _ ha v

theorem pushTx_pushFrame (r : Result) {v : Byte} (h : s.push .tx v = .ok t) : s.PushFrame (t.complete r) := by
  obtain ⟨rb, rb', hrb, hp, rfl⟩ := State.push_eq_ok.mp h
  have htx : s.tx = some rb := hrb
  refine ⟨rfl, fun a => rfl, fun a ha => ?_⟩
  have hne : a ≠ rb.wr := by
    rintro rfl
    exact ha (by simp [State.storeSlot, htx])
  simp [State.slot, htx, Ring.push_read_of_ne hp hne]

theorem rbPushStep_pushFrame (r : Inst) (d : Byte) (s : State) : Yields s.PushFrame (rbPushStep r d s) := by
  refine .after fun _ => ?_
  cases r with
  | tx => exact .after fun _ => (yields_iff.mpr fun _ => id).bind fun _ hu => pushTx_pushFrame _ hu
  | rx => trivial

/-- Settles O53: RB.PUSH pushes into `tx` and completes, or leaves bookkeeping only. -/
theorem rbPushFrame : Obligations.RbPushFrame := fun s _ r d h =>
  exec_frame (i := .rbPush r d) rfl (fun _ => State.SameButFg.pushFrame)
    (fun l n => atL0_yields l n (rbPushStep_pushFrame r d s)) h

end Sys2Proof.Machine

namespace Sys2Proof.Machine

variable {s t : State} {i : Instr} {l : Label} {n m : Nat}

/-! ## An overrunning write (R158) -/

theorem runInstr_succ (h : exec i s = .next t) : runInstr i (n + 1) s = runInstr i n t := by
  rw [runInstr, h]

theorem runInstr_add (h : runInstr i m s = .next t) : runInstr i (m + n) s = runInstr i n t := by
  induction m generalizing s with
  | zero =>
    cases h
    rw [Nat.zero_add]
  | succ m ih =>
    rw [Nat.succ_add]
    cases he : exec i s with
    | next u =>
      rw [runInstr_succ he] at h ⊢
      exact ih h
    | fault f => simp [runInstr, he] at h
    | refused r => simp [runInstr, he] at h

theorem issuedBy_of_isWriteFamily (hi : i.isWriteFamily = true) : i.issuedBy = .port := by
  cases i with
  | txisr | rxisr => cases hi
  | _ => rfl

/-- R205, R150: a write-family command that sends a byte enters the enqueue loop. -/
theorem exec_writeFamily_l0 (hi : i.isWriteFamily = true) (hs : i.sends s.cfg ≠ []) (hat : s.At i .l0 n)
    (hlife : s.life = true) : exec i s = .next (s.goto i .w1 0) := by
  refine exec_of_portStep_eq_ok (issuedBy_of_isWriteFamily hi) hat ?_
  simp [portStep_writeFamily hi, hs, enterEnqueue, hlife]

/-- Past `L0` it is the enqueue loop over the bytes it sends, with the prime sequence at the end. -/
theorem exec_writeFamily_enqueue (hi : i.isWriteFamily = true) (hs : i.sends s.cfg ≠ []) (hat : s.At i l n)
    (hl : l ≠ .l0) (h : enqueueStep i (i.sends s.cfg) i.writeFamilyResult l n s = .ok t) : exec i s = .next t := by
  refine exec_of_portStep_eq_ok (issuedBy_of_isWriteFamily hi) hat ?_
  rw [portStep_writeFamily hi, if_neg hs, if_neg hl, h]

/-- R150: on a non-blocking port W1 never holds. -/
theorem enqueueByte_of_nonBlocking {bs : List Byte} {b : Byte} (hbof : s.cfgBof = some false) (hb : bs[n]? = some b)
    (hp : s.push .tx b = .ok t) :
    enqueueByte i bs n s = .ok (t.goto i (if n + 1 < bs.length then .w1 else .p0) (n + 1)) := by
  simp [enqueueByte, State.mustWait, hbof, hb, hp]

/-- R122: with the hardware busy the prime sequence ends where it starts. -/
theorem primeStep_p0_of_busy {k : Label} (h : s.u.txReady = false) : primeStep i k .p0 n s = .ok (s.goto i k n) := by
  simp [primeStep, h]

/-- R150, R158: on a non-blocking port the loop pushes the bytes from the cursor on, one a step, and goes on to P0. -/
theorem runInstr_enqueue {rb rb' : Ring 8} {pre vs : List Byte} (hi : i.isWriteFamily = true)
    (hs : i.sends s.cfg = pre ++ vs) (hvs : vs ≠ []) (hat : s.At i .w1 pre.length) (hbof : s.cfgBof = some false)
    (hrb : s.tx = some rb) (hp : rb.pushAll s.cfg.cTx vs = .ok rb') :
    runInstr i vs.length s = .next ((s.setInstance .tx rb').goto i .p0 (i.sends s.cfg).length) := by
  induction vs generalizing s rb pre with
  | nil => exact absurd rfl hvs
  | cons v vs ih =>
    obtain ⟨rb₁, hp₁, hps⟩ := bind_eq_ok.mp hp
    have hstep := exec_writeFamily_enqueue hi (by simp [hs]) hat (by simp) <|
      enqueueByte_of_nonBlocking (i := i) hbof (by simp [hs]) (State.push_tx hrb hp₁)
    rw [List.length_cons, runInstr_succ hstep]
    cases vs with
    | nil =>
      cases hps
      simp [hs, runInstr]
    | cons v' vs =>
      rw [if_pos (by simp [hs])]
      exact ih (s := (s.setInstance .tx rb₁).goto i .w1 (pre.length + 1)) (pre := pre ++ [v])
        (by simp [hs]) (by simp) ⟨hat.1, by simp⟩ hbof rfl hps

/-- Settles O40: the loop is the pushes of R106 onto what `tx` held, and the busy hardware lets nothing be popped. -/
theorem overrunKeepsLastBytes : Obligations.OverrunKeepsLastBytes := by
  intro s i rb old k hinv hi hs hat hlife hbof hrb hold hbusy
  have hlegal := hinv.txLegal rb hrb
  obtain ⟨rb', hp, -, hnew⟩ := hlegal.pushAll (vs := i.sends s.cfg) hold
  rw [foldl_pushQueue _ s.cfg.cTx.pos (hold.1 ▸ hlegal.count_le)] at hnew
  have hentry := exec_writeFamily_l0 hi hs hat hlife
  have hloop := runInstr_enqueue (s := s.goto i .w1 0) (pre := []) hi rfl hs ⟨hat.1, rfl⟩ hbof hrb hp
  have hprime := exec_writeFamily_enqueue (s := (s.setInstance .tx rb').goto i .p0 (i.sends s.cfg).length)
    hi hs ⟨hat.1, rfl⟩ (by simp) (primeStep_p0_of_busy (k := .w9) hbusy)
  have hreturn := exec_writeFamily_enqueue (s := (s.setInstance .tx rb').goto i .w9 (i.sends s.cfg).length)
    hi hs ⟨hat.1, rfl⟩ (by simp) rfl
  have hrun : runInstr i ((i.sends s.cfg).length + 3) s =
      .next (((s.setInstance .tx rb').goto i .w9 (i.sends s.cfg).length).complete i.writeFamilyResult) :=
    calc runInstr i ((i.sends s.cfg).length + 3) s
        = runInstr i ((i.sends s.cfg).length + 2) (s.goto i .w1 0) := runInstr_succ hentry
      _ = runInstr i 2 ((s.setInstance .tx rb').goto i .p0 (i.sends s.cfg).length) := runInstr_add hloop
      _ = runInstr i 1 ((s.setInstance .tx rb').goto i .w9 (i.sends s.cfg).length) := runInstr_succ hprime
      _ = _ := runInstr_succ hreturn
  exact ⟨_, rb', hrun, rfl, hnew, rfl, rfl, rfl, rfl, rfl⟩

end Sys2Proof.Machine

/-! SUPPORT. Proofs of the statements about spec/41_tx_arbiter.md: the drain iteration and its loops, the labels of the
prime sequence, the transmit service, and the only steps that write TXIE or the wire. -/

namespace Sys2Proof.Machine

variable {s t : State} {rb rb' : Ring 8} {b : Byte} {i : Instr} {l : Label} {n : Nat}

/-! ## The drain iteration (R120, R222) -/

/-- What sending byte `b`, popped from `tx`, leaves: the instance moved on, the wire longer, the readiness drawn. -/
def State.sent (s : State) (b : Byte) (rb' : Ring 8) : State :=
  { s with
    tx := some rb', draws := s.takeDraw.2.draws, freeTick := s.takeDraw.2.freeTick,
    u := { s.u with txWire := s.u.txWire ++ [b], txReady := s.takeDraw.1 } }

theorem State.sent_of_draws_cons {d : Bool} {ds : List Bool} (h : s.draws = d :: ds) : s.sent b rb' =
    { s with tx := some rb', draws := ds, u := { s.u with txWire := s.u.txWire ++ [b], txReady := d } } := by
  simp [State.sent, State.takeDraw, h]

theorem State.sent_of_draws_nil (h : s.draws = []) : s.sent b rb' =
    { s with tx := some rb', freeTick := s.freeTick + 1,
             u := { s.u with txWire := s.u.txWire ++ [b], txReady := Config.freeDraw s.freeTick } } := by
  simp [State.sent, State.takeDraw, h]

theorem uartWrite_setInstance_tx (h : s.u.txReady = true) :
    (s.setInstance .tx rb').uartWrite b = .ok (s.sent b rb') := by
  refine State.uartWrite_eq_ok.mpr ⟨h, ?_⟩
  cases hd : s.draws with
  | nil => simp [State.sent_of_draws_nil hd, State.takeDraw, State.setInstance, hd]
  | cons d ds => simp [State.sent_of_draws_cons hd, State.takeDraw, State.setInstance, hd]

theorem State.pop_tx {y : Option Byte × Ring 8} (hrb : s.tx = some rb) (hp : rb.pop s.cfg.cTx = .ok y) :
    s.pop .tx = .ok (y.1, s.setInstance .tx y.2) :=
  State.pop_eq_ok.mpr ⟨rb, y, hrb, hp, rfl⟩

theorem drainIter_of_busy (h : s.u.txReady = false) : s.drainIter = .ok (s, .exit) :=
  State.drainIter_eq_ok.mpr (.inl ⟨h, rfl⟩)

theorem drainIter_of_empty (h : s.u.txReady = true) (hrb : s.tx = some rb) (h0 : rb.count = 0) :
    s.drainIter = .ok (s.setTxie false, .exit) := by
  have hpop := State.pop_tx hrb (Ring.pop_eq_ok.mpr (.inl ⟨h0, rfl⟩))
  rw [State.setInstance_self (r := .tx) hrb] at hpop
  exact State.drainIter_eq_ok.mpr (.inr ⟨h, _, hpop, .inl ⟨rfl, rfl⟩⟩)

theorem drainIter_of_pop (h : s.u.txReady = true) (hrb : s.tx = some rb)
    (hp : rb.pop s.cfg.cTx = .ok (some b, rb')) : s.drainIter = .ok (s.sent b rb', .goOn) :=
  State.drainIter_eq_ok.mpr
    (.inr ⟨h, _, State.pop_tx hrb hp, .inr ⟨b, _, rfl, uartWrite_setInstance_tx h, rfl⟩⟩)

/-- The three equations above are all a drain iteration can answer. -/
theorem drainIter_cases {x : State × Drain} (h : s.drainIter = .ok x) :
    (s.u.txReady = false ∧ x = (s, .exit)) ∨
    (s.u.txReady = true ∧ ∃ rb, s.tx = some rb ∧
      ((rb.count = 0 ∧ x = (s.setTxie false, .exit)) ∨
       ∃ b rb', rb.pop s.cfg.cTx = .ok (some b, rb') ∧ x = (s.sent b rb', .goOn))) := by
  obtain hbusy | ⟨hready, y, hpop, -⟩ := State.drainIter_eq_ok.mp h
  · exact .inl hbusy
  · obtain ⟨rb, ⟨o, rb'⟩, hrb, hp, -⟩ := State.pop_eq_ok.mp hpop
    refine .inr ⟨hready, rb, hrb, ?_⟩
    cases o with
    | none =>
      obtain ⟨h0, -⟩ | ⟨-, -, _, -, ⟨⟩⟩ := Ring.pop_eq_ok.mp hp
      exact .inl ⟨h0, Except.ok.inj (h.symm.trans (drainIter_of_empty hready hrb h0))⟩
    | some b => exact .inr ⟨b, rb', hp, Except.ok.inj (h.symm.trans (drainIter_of_pop hready hrb hp))⟩

/-- Settles O30: the three equations, with the draw at hand and past the end of the list. -/
theorem drainIterationMovesOneByte : Obligations.DrainIterationMovesOneByte := by
  refine fun s rb => ⟨drainIter_of_busy, drainIter_of_empty, fun b hready hrb h0 hrd hb => ?_⟩
  have hsent := drainIter_of_pop hready hrb (Ring.pop_eq_ok.mpr (.inr ⟨h0, hrd, b, hb, rfl⟩))
  exact ⟨fun d ds hd => by rw [hsent, State.sent_of_draws_cons hd],
    fun hd => by rw [hsent, State.sent_of_draws_nil hd]⟩

/-! ## The labels of the prime sequence (R122, R123) -/

/-- The labels R122 gives to the prime sequence. -/
def Label.isPrime : Label → Bool
  | .p0 | .p1 | .p2 | .p3 => true
  | .l0 | .w1 | .w9 | .k1 | .s1 => false

/-- R122: PRIME and the write-family commands that send a byte run the same sequence, up to its continuation. -/
theorem exec_of_primeStep (hi : i.hasLabel s.cfg .p0 = true) (hl : l.isPrime = true) (hat : s.At i l n)
    (h : primeStep i i.continuation l n s = .ok t) : exec i s = .next t := by
  have hi' : i = .prime ∨ (i.isWriteFamily = true ∧ i.sends s.cfg ≠ []) := by simpa [Instr.hasLabel] using hi
  rcases hi' with rfl | ⟨hw, hs⟩
  · refine exec_of_portStep_eq_ok rfl hat ?_
    rw [← h]
    exact primeCmdStep_eq_primeStep (by rintro rfl; cases hl) (by rintro rfl; cases hl)
  · refine exec_writeFamily_enqueue hw hs hat (by rintro rfl; cases hl) ?_
    rw [← h, Instr.continuation_of_isWriteFamily hw]
    exact enqueueStep_eq_primeStep (by rintro rfl; cases hl) (by rintro rfl; cases hl)

theorem primeStep_p2_of_drainIter {k : Label} {d : Drain} (h : s.drainIter = .ok (t, d)) :
    primeStep i k .p2 n s = .ok (t.goto i (if d = .goOn then .p2 else .p3) n) := by
  rw [primeStep, h, bind_ok]

theorem exec_p2_of_goOn (hi : i.hasLabel s.cfg .p0 = true) (hat : s.At i .p2 n) (h : s.drainIter = .ok (t, .goOn)) :
    exec i s = .next (t.goto i .p2 n) :=
  exec_of_primeStep hi rfl hat (primeStep_p2_of_drainIter h)

theorem exec_p2_of_exit (hi : i.hasLabel s.cfg .p0 = true) (hat : s.At i .p2 n) (h : s.drainIter = .ok (t, .exit)) :
    exec i s = .next (t.goto i .p3 n) :=
  exec_of_primeStep hi rfl hat (primeStep_p2_of_drainIter h)

theorem primeStep_p0_of_ready {k : Label} (h : s.u.txReady = true) :
    primeStep i k .p0 n s = .ok (s.goto i .p1 n) := by
  simp [primeStep, h]

theorem exec_prime_l0 (hat : s.At .prime .l0 n) (hlife : s.life = true) :
    exec .prime s = .next (s.goto .prime .p0 n) :=
  exec_of_portStep_eq_ok rfl hat (by simp [portStep, primeCmdStep, hlife])

/-- Settles O31: the labels of the sequence, the word, and PRIME's own two labels. -/
theorem primeSequenceSteps : Obligations.PrimeSequenceSteps := by
  refine ⟨fun s i n hi => ⟨fun hat hbusy => ?_, fun hat hready => ?_, fun hat => ?_, fun t => exec_p2_of_goOn hi,
      fun t => exec_p2_of_exit hi, fun hat => ?_⟩,
    fun _ => decode_eq_ok_iff.mpr ⟨by decide, rfl, rfl⟩,
    fun s n => ⟨exec_of_not_life rfl nofun, exec_prime_l0, fun hat => exec_of_portStep_eq_ok rfl hat rfl⟩⟩
  · exact exec_of_primeStep hi rfl hat (primeStep_p0_of_busy hbusy)
  · exact exec_of_primeStep hi rfl hat (primeStep_p0_of_ready hready)
  · exact exec_of_primeStep hi rfl hat rfl
  · exact exec_of_primeStep hi rfl hat rfl

/-! ## The transmit service (R126, R212, R218) -/

theorem State.txServiceEnabled_iff : s.txServiceEnabled = true ↔ s.fault = 0#3 ∧ s.active = true := by
  simp [State.txServiceEnabled, State.noFault]

theorem State.txServiceEnabled_of_not_active (h : s.active = false) : s.txServiceEnabled = false := by
  simp [State.txServiceEnabled, h]

theorem exec_txisr_entry (hf : s.fault = 0#3) (hact : s.active = false) (htxie : s.txie = true)
    (hready : s.u.txReady = true) : exec .txisr s = .next s.txEntry :=
  exec_txisr_eq_next.mpr (.inr (.inl
    ⟨State.txServiceEnabled_of_not_active hact, State.txEntryEnabled_iff.mpr ⟨hf, hact, htxie, hready⟩, rfl⟩))

theorem exec_txisr_of_not_enabled (hact : s.active = false) (h : s.txEntryEnabled = false) :
    exec .txisr s = .next s :=
  exec_txisr_eq_next.mpr (.inr (.inr ⟨State.txServiceEnabled_of_not_active hact, h, rfl⟩))

theorem exec_txisr_of_drainIter {d : Drain} (hf : s.fault = 0#3) (hact : s.active = true)
    (h : s.drainIter = .ok (t, d)) : exec .txisr s = .next (if d = .goOn then t else t.txReturn) := by
  refine exec_txisr_eq_next.mpr (.inl ⟨State.txServiceEnabled_iff.mpr ⟨hf, hact⟩, ?_⟩)
  rw [txServiceStep, h, bind_ok, State.settle]

/-- Settles O34: the entry code, entry exactly when it is enabled, and the two answers of the iteration. -/
theorem transmitServiceSteps : Obligations.TransmitServiceSteps := by
  refine ⟨fun lenMax => decodeRow_eq_some_iff.mpr ⟨by decide, rfl⟩, fun s => ⟨exec_txisr_entry, fun hact hoff => ?_,
    fun t hf hact h => exec_txisr_of_drainIter hf hact h, fun t hf hact h => exec_txisr_of_drainIter hf hact h⟩⟩
  refine exec_txisr_of_not_enabled hact (Bool.eq_false_iff.mpr fun h => ?_)
  obtain ⟨hf, -, htxie, hready⟩ := State.txEntryEnabled_iff.mp h
  simp [hf, htxie, hready] at hoff

/-- Settles O43: the invariant keeps TXIE and ACTIVE at 0 there, and entry needs TXIE = 1. -/
theorem primeExcludesTransmitService : Obligations.PrimeExcludesTransmitService := by
  intro s i l n hinv hfg hl
  obtain ⟨htxie, hact⟩ := (hinv.busyLegal hfg).primeOff hl
  have hentry : s.txEntryEnabled = false := by simp [State.txEntryEnabled, State.txRequests, htxie]
  exact ⟨htxie, hact, hentry, exec_txisr_of_not_enabled hact hentry⟩

end Sys2Proof.Machine

namespace Sys2Proof.Machine

variable {s t : State} {rb rb' : Ring 8} {b : Byte} {i : Instr} {l : Label} {n : Nat} {m : Move}
  {P : State → Prop} {leave : State → State} {q : List Byte} {ds : List Bool}

/-! ## Drain loops (R128, R129) -/

/-- While `P` holds, each micro-step of `i` is one drain iteration; the one that exits also does `leave`. Two loops are
of this form, at P2 and in TXI. -/
structure DrainLoop (i : Instr) (P : State → Prop) (leave : State → State) : Prop where
  goOn {s : State} {b : Byte} {rb' : Ring 8} (hs : P s) (h : s.drainIter = .ok (s.sent b rb', .goOn)) :
    exec i s = .next (s.sent b rb')
  exit {s t : State} (hs : P s) (h : s.drainIter = .ok (t, .exit)) : exec i s = .next (leave t)
  keep {s : State} {b : Byte} {rb' : Ring 8} (hs : P s) : P (s.sent b rb')

theorem State.goto_self (h : s.fg = .busy i l n) : s.goto i l n = s := by
  rw [State.goto, ← h]

/-- R122: the loop at P2. -/
theorem drainLoop_p2 (i : Instr) (n : Nat) :
    DrainLoop i (fun s => i.hasLabel s.cfg .p0 = true ∧ s.At i .p2 n) (·.goto i .p3 n) where
  goOn := fun ⟨hi, hat⟩ h =>
    (exec_p2_of_goOn hi hat h).trans (congrArg _ (State.goto_self (show (State.sent _ _ _).fg = _ from hat.2)))
  exit := fun ⟨hi, hat⟩ => exec_p2_of_exit hi hat
  keep := id

/-- R126: the loop of the transmit service. -/
theorem drainLoop_txisr : DrainLoop .txisr (fun s => s.fault = 0#3 ∧ s.active = true) State.txReturn where
  goOn := fun ⟨hf, hact⟩ => exec_txisr_of_drainIter hf hact
  exit := fun ⟨hf, hact⟩ => exec_txisr_of_drainIter hf hact
  keep := id

theorem Ring.Legal.empty_or_popped {w c : Nat} {rb : Ring w} (h : rb.Legal c) :
    rb.count = 0 ∨ ∃ v rb', rb.pop c = .ok (some v, rb') ∧ rb'.Legal c ∧ rb'.count + 1 = rb.count := by
  obtain ⟨y, hp, hl, -⟩ := h.pop
  obtain ⟨h0, -⟩ | ⟨h0, -, v, -, rfl⟩ := Ring.pop_eq_ok.mp hp
  · exact .inl h0
  · exact .inr ⟨v, _, hp, hl, Nat.sub_one_add_one h0⟩

/-- R129: whatever the draws, every iteration but the last takes a byte from `tx`. -/
theorem DrainLoop.ends (h : DrainLoop i P leave) (hs : P s) (hrb : s.tx = some rb) (hl : rb.Legal s.cfg.cTx) :
    ∃ n t, n ≤ rb.count + 1 ∧ runInstr i n s = .next (leave t) := by
  induction hk : rb.count using Nat.strong_induction_on generalizing s rb with
  | h k ih =>
    cases hready : s.u.txReady with
    | false => exact ⟨1, s, by omega, runInstr_succ (h.exit hs (drainIter_of_busy hready))⟩
    | true =>
      obtain h0 | ⟨b, rb', hp, hl', hcount⟩ := hl.empty_or_popped
      · exact ⟨1, s.setTxie false, by omega, runInstr_succ (h.exit hs (drainIter_of_empty hready hrb h0))⟩
      · have hstep := h.goOn hs (drainIter_of_pop hready hrb hp)
        obtain ⟨n, t, hn, hrun⟩ := ih rb'.count (by omega) (s := s.sent b rb') (h.keep hs) rfl hl' rfl
        exact ⟨n + 1, t, by omega, (runInstr_succ hstep).trans hrun⟩

/-- R216, R217: while the transmit service runs no other agent moves `tx`, and its own step is one iteration. -/
theorem moveStep_of_active (hact : s.active = true) (hrb : s.tx = some rb) (h : moveStep m s = .next t) :
    t.active = false ∨ (∃ rb', t.tx = some rb' ∧ rb'.count + 1 = rb.count) ∨ (t.tx = s.tx ∧ t.active = true) := by
  cases m with
  | fg =>
    cases (fgAgentStep_of_not_mayStep (by simp [State.fgMayStep, hact])).symm.trans h
    exact .inr (.inr ⟨rfl, hact⟩)
  | txi =>
    obtain ⟨-, h⟩ | ⟨-, -, rfl⟩ | ⟨-, -, rfl⟩ := exec_txisr_eq_next.mp h
    · obtain hok | ⟨-, rfl⟩ | ⟨k, -, rfl⟩ := State.settle_eq_next.mp h
      · obtain ⟨x, hx, ⟨⟩⟩ := bind_eq_ok.mp hok
        obtain ⟨-, rfl⟩ | ⟨-, rb₁, hrb₁, ⟨-, rfl⟩ | ⟨b, rb', hp, rfl⟩⟩ := drainIter_cases hx
        · exact .inl rfl
        · exact .inl rfl
        · obtain rfl : rb = rb₁ := by simpa [hrb] using hrb₁
          obtain ⟨-, ⟨⟩⟩ | ⟨h0, -, _, -, ⟨⟩⟩ := Ring.pop_eq_ok.mp hp
          exact .inr (.inl ⟨_, rfl, Nat.sub_one_add_one h0⟩)
      · exact .inr (.inr ⟨rfl, hact⟩)
      · exact .inr (.inr ⟨s.raise_tx k, (s.raise_active k).trans hact⟩)
    · exact .inr (.inr ⟨rfl, rfl⟩)
    · exact .inr (.inr ⟨rfl, hact⟩)
  | rxi =>
    obtain ⟨hen, -⟩ | ⟨-, rfl⟩ := exec_rxisr_eq_next.mp h
    · simp [State.rxServiceEnabled, hact] at hen
    · exact .inr (.inr ⟨rfl, hact⟩)
  | env e =>
    cases h
    exact .inr (.inr ⟨rfl, hact⟩)

/-- Settles O39: both loops end as `DrainLoop` says, and the step of each agent while the service runs. -/
theorem drainLoopsEnd : Obligations.DrainLoopsEnd := by
  refine ⟨fun s rb hinv hf hact hrb => ?_, fun s i k rb hinv hat hrb => ?_, fun s t rb _ hact hrb hst => ?_⟩
  · obtain ⟨n, t, hn, hrun⟩ := drainLoop_txisr.ends ⟨hf, hact⟩ hrb (hinv.txLegal rb hrb)
    exact ⟨n, _, hn, hrun, rfl⟩
  · have hi : i.hasLabel s.cfg .p0 = true := (hinv.busyLegal hat.2).label
    obtain ⟨n, t, hn, hrun⟩ := (drainLoop_p2 i k).ends ⟨hi, hat⟩ hrb (hinv.txLegal rb hrb)
    exact ⟨n, _, hn, hrun, rfl⟩
  · simpa using moveStep_of_active (s := s.takeMove.2) (by simpa using hact) (by simpa using hrb) hst

/-! ## PRIME with the hardware always ready (R123, R128) -/

/-- What a drain loop leaves that sent the bytes `q` and then found `tx` empty; `ds` are the draws still to come. -/
def State.drained (s : State) (rb' : Ring 8) (q : List Byte) (ds : List Bool) : State :=
  { s with tx := some rb', txie := false, draws := ds,
           u := { s.u with txWire := s.u.txWire ++ q, txReady := true } }

/-- R128: the loop sends what `tx` holds, oldest first, one byte an iteration. -/
theorem DrainLoop.sendsAll (h : DrainLoop i P leave) (hs : P s) (hrb : s.tx = some rb) (hl : rb.Legal s.cfg.cTx)
    (hold : rb.Holds s.cfg.cTx q) (hready : s.u.txReady = true)
    (hdraws : s.draws = List.replicate q.length true ++ ds) :
    ∃ rb', rb'.count = 0 ∧ runInstr i (q.length + 1) s = .next (leave (s.drained rb' q ds)) := by
  induction q generalizing s rb with
  | nil =>
    have hend : s.setTxie false = s.drained rb [] ds := by
      simp [State.setTxie, State.drained, ← hrb, ← hready, show s.draws = ds from hdraws]
    have hstep := h.exit hs (drainIter_of_empty hready hrb hold.1)
    exact ⟨rb, hold.1, hend ▸ runInstr_succ hstep⟩
  | cons b q ih =>
    obtain ⟨rb₁, hp, hl₁, hold₁⟩ := hl.popped hold
    have hstep := h.goOn hs (drainIter_of_pop hready hrb hp)
    have hsent := State.sent_of_draws_cons (b := b) (rb' := rb₁) hdraws
    obtain ⟨rb', h0, hrun⟩ := ih (s := s.sent b rb₁) (h.keep hs) rfl hl₁ hold₁
      (congrArg (·.u.txReady) hsent) (congrArg State.draws hsent)
    refine ⟨rb', h0, (runInstr_succ hstep).trans (hrun.trans ?_)⟩
    rw [hsent]
    simp [State.drained]

/-- R128: a transmit service that finds `tx` empty is two steps, and detaches the handler. -/
theorem runInstr_txisr_of_empty (hf : s.fault = 0#3) (hact : s.active = false) (htxie : s.txie = true)
    (hready : s.u.txReady = true) (hrb : s.tx = some rb) (h0 : rb.count = 0) :
    runInstr .txisr 2 s = .next (s.txEntry.setTxie false).txReturn :=
  calc runInstr .txisr 2 s
      = runInstr .txisr 1 s.txEntry := runInstr_succ (exec_txisr_entry hf hact htxie hready)
    _ = _ := runInstr_succ (exec_txisr_of_drainIter (s := s.txEntry) hf rfl (drainIter_of_empty hready hrb h0))

/-- R123: with the hardware ready PRIME reaches P2 in three steps, the handler detached. -/
theorem runInstr_prime_to_p2 (hat : s.At .prime .l0 n) (hlife : s.life = true) (hready : s.u.txReady = true) :
    runInstr .prime 3 s = .next ((s.setTxie false).goto .prime .p2 n) :=
  calc runInstr .prime 3 s
      = runInstr .prime 2 (s.goto .prime .p0 n) := runInstr_succ (exec_prime_l0 hat hlife)
    _ = runInstr .prime 1 (s.goto .prime .p1 n) :=
      runInstr_succ (exec_of_primeStep rfl rfl ⟨hat.1, rfl⟩ (primeStep_p0_of_ready hready))
    _ = _ := runInstr_succ (exec_of_primeStep rfl rfl ⟨hat.1, rfl⟩ rfl)

/-- R122, R123: from P3 PRIME attaches the handler and completes. -/
theorem runInstr_prime_from_p3 (hmay : s.fgMayStep = true) :
    runInstr .prime 2 (s.goto .prime .p3 n) = .next ((s.setTxie true).complete .none) :=
  calc runInstr .prime 2 (s.goto .prime .p3 n)
      = runInstr .prime 1 ((s.setTxie true).goto .prime .k1 n) :=
      runInstr_succ (exec_of_primeStep rfl rfl ⟨hmay, rfl⟩ rfl)
    _ = _ := runInstr_succ (exec_of_portStep_eq_ok rfl (n := n) ⟨hmay, rfl⟩ rfl)

/-- Settles O38: three steps to P2, its loop over all of `tx`, two steps to the end; then a service of two steps. -/
theorem primeSendsEverythingInOrder : Obligations.PrimeSendsEverythingInOrder := by
  intro s rb q k ds hinv hat hlife hrb hold hready hdraws
  obtain ⟨hf, hact⟩ := State.fgMayStep_iff.mp hat.1
  obtain ⟨rb', h0, hloop⟩ := (drainLoop_p2 .prime k).sendsAll (s := (s.setTxie false).goto .prime .p2 k)
    ⟨rfl, hat.1, rfl⟩ hrb (hinv.txLegal rb hrb) hold hready hdraws
  have hrun : runInstr .prime (q.length + 6) s = .next (((s.drained rb' q ds).setTxie true).complete .none) :=
    calc runInstr .prime (q.length + 6) s
        = runInstr .prime (3 + (q.length + 1 + 2)) s := by rw [Nat.add_comm 3]
      _ = runInstr .prime (q.length + 1 + 2) _ := runInstr_add (runInstr_prime_to_p2 hat hlife hready)
      _ = runInstr .prime 2 _ := runInstr_add hloop
      _ = _ := runInstr_prime_from_p3 (s := s.drained rb' q ds) hat.1
  have hservice := runInstr_txisr_of_empty (s := ((s.drained rb' q ds).setTxie true).complete .none)
    hf hact rfl rfl rfl h0
  exact ⟨_, _, hrun, rfl, rfl, rfl, rfl, rfl, congrArg some h0, hservice, rfl, rfl, rfl⟩

end Sys2Proof.Machine

namespace Sys2Proof.Machine

variable {s t : State} {i : Instr} {l : Label} {n : Nat} {m : Move}

/-! ## What a step does to TXIE and to the wire (R121, R125) -/

/-- What a drain iteration from `s` to `t` can do to TXIE, to the wire and to `tx`. -/
inductive DrainEffect (s t : State) : Prop
  | kept (htxie : t.txie = s.txie) (hwire : t.u.txWire = s.u.txWire)
  | detached {rb : Ring 8} (hready : s.u.txReady = true) (hrb : s.tx = some rb) (h0 : rb.count = 0)
      (htxie : t.txie = false) (hwire : t.u.txWire = s.u.txWire)
  | sent {rb rb' : Ring 8} {b : Byte} (hready : s.u.txReady = true) (hrb : s.tx = some rb)
      (hpop : rb.pop s.cfg.cTx = .ok (some b, rb')) (htxie : t.txie = s.txie) (htx : t.tx = some rb')
      (hwire : t.u.txWire = s.u.txWire ++ [b])

/-- Everything a move from `s` to `t` can do to TXIE and to the wire, by the micro-step that does it. -/
inductive TransmitEffect (s t : State) : Move → Prop
  /-- Nothing. -/
  | kept {m : Move} (htxie : t.txie = s.txie) (hwire : t.u.txWire = s.u.txWire) : TransmitEffect s t m
  /-- P1 detaches the transmit handler. -/
  | detached {i : Instr} {n : Nat} (hfg : s.fg = .busy i .p1 n) (htxie : t.txie = false)
      (hwire : t.u.txWire = s.u.txWire) : TransmitEffect s t .fg
  /-- P3 attaches it. -/
  | attached {i : Instr} {n : Nat} (hfg : s.fg = .busy i .p3 n) (htxie : t.txie = true)
      (hwire : t.u.txWire = s.u.txWire) : TransmitEffect s t .fg
  /-- CTOR and DTOR leave it detached. -/
  | lifecycle {i : Instr} {n : Nat} (hfg : s.fg = .busy i .l0 n) (hi : i = .dtor ∨ ∃ b, i = .ctor b)
      (htxie : t.txie = false) (hwire : t.u.txWire = s.u.txWire) : TransmitEffect s t .fg
  /-- P2 is a drain iteration. -/
  | primed {i : Instr} {n : Nat} (hfg : s.fg = .busy i .p2 n) (hdrain : DrainEffect s t) : TransmitEffect s t .fg
  /-- So is T1. -/
  | served (hact : s.active = true) (hdrain : DrainEffect s t) : TransmitEffect s t .txi

theorem drainIter_drainEffect (s : State) : Yields (fun x => DrainEffect s x.1) s.drainIter := by
  refine yields_iff.mpr fun x h => ?_
  obtain ⟨-, rfl⟩ | ⟨hready, rb, hrb, ⟨h0, rfl⟩ | ⟨b, rb', hp, rfl⟩⟩ := drainIter_cases h
  · exact .kept rfl rfl
  · exact .detached hready hrb h0 rfl rfl
  · exact .sent hready hrb hp rfl rfl rfl

/-- The effect is one on TXIE, `tx` and the wire. -/
theorem DrainEffect.congr {t' : State} (h : DrainEffect s t) (htxie : t'.txie = t.txie) (htx : t'.tx = t.tx)
    (hu : t'.u = t.u) : DrainEffect s t' := by
  cases h with
  | kept h₁ h₂ => exact .kept (htxie.trans h₁) (hu ▸ h₂)
  | detached hr hrb h0 h₁ h₂ => exact .detached hr hrb h0 (htxie.trans h₁) (hu ▸ h₂)
  | sent hr hrb hp h₁ h₂ h₃ => exact .sent hr hrb hp (htxie.trans h₁) (htx.trans h₂) (hu ▸ h₃)

theorem primeStep_transmitEffect (hfg : s.fg = .busy i l n) (j : Instr) (k : Label) :
    Yields (TransmitEffect s · .fg) (primeStep j k l n s) := by
  cases l with
  | p0 => exact .kept rfl rfl
  | p1 => exact .detached hfg rfl rfl
  | p2 => exact (drainIter_drainEffect s).bind fun _ hx => .primed hfg (hx.congr rfl rfl rfl)
  | p3 => exact .attached hfg rfl rfl
  | _ => trivial

theorem primeCmdStep_transmitEffect (hfg : s.fg = .busy i l n) :
    Yields (TransmitEffect s · .fg) (primeCmdStep s l n) := by
  by_cases h0 : l = .l0
  · subst h0
    exact .after fun _ => .kept rfl rfl
  · by_cases hk : l = .k1
    · subst hk
      exact .kept rfl rfl
    · rw [primeCmdStep_eq_primeStep h0 hk]
      exact primeStep_transmitEffect hfg .prime .k1

theorem enqueueByte_transmitEffect (s : State) (i : Instr) (bs : List Byte) (n : Nat) :
    Yields (TransmitEffect s · .fg) (enqueueByte i bs n s) := by
  refine .after fun wait => ?_
  cases wait with
  | true => trivial
  | false =>
    cases hb : bs[n]? with
    | none => trivial
    | some b =>
      refine (yields_iff.mpr fun _ => State.push_eq_ok.mp).bind ?_
      rintro _ ⟨rb, rb', -, -, rfl⟩
      exact .kept rfl rfl

theorem enqueueStep_transmitEffect (hfg : s.fg = .busy i l n) (j : Instr) (bs : List Byte) (res : Result) :
    Yields (TransmitEffect s · .fg) (enqueueStep j bs res l n s) := by
  by_cases h1 : l = .w1
  · subst h1
    exact enqueueByte_transmitEffect s j bs n
  · by_cases h9 : l = .w9
    · subst h9
      exact .kept rfl rfl
    · rw [enqueueStep_eq_primeStep h1 h9]
      exact primeStep_transmitEffect hfg j .w9

theorem writeFamily_transmitEffect (hi : i.isWriteFamily = true) (hfg : s.fg = .busy i l n) :
    Yields (TransmitEffect s · .fg) (portStep i s l n) := by
  rw [portStep_writeFamily hi]
  split
  · exact atL0_yields l n (.after fun _ => .kept rfl rfl)
  · split
    · exact .after fun _ => .kept rfl rfl
    · exact enqueueStep_transmitEffect hfg i _ _

/-- The queries, the reads and RB.PUSH have frames without TXIE and the UART. -/
theorem State.SameButFg.transmitEffect (h : s.SameButFg t) : TransmitEffect s t m :=
  .kept ((congrArg State.txie h).trans rfl) ((congrArg (·.u.txWire) h).trans rfl)

theorem State.ReadFrame.transmitEffect (h : s.ReadFrame t) : TransmitEffect s t m :=
  .kept ((congrArg State.txie h.1).trans rfl) ((congrArg (·.u.txWire) h.1).trans rfl)

theorem State.PushFrame.transmitEffect (h : s.PushFrame t) : TransmitEffect s t m :=
  .kept ((congrArg State.txie h.1).trans rfl) ((congrArg (·.u.txWire) h.1).trans rfl)

theorem Yields.mono {α : Type} {P Q : α → Prop} {x : Except Stop α} (hx : Yields P x) (h : ∀ a, P a → Q a) :
    Yields Q x :=
  yields_iff.mpr fun a ha => h a (yields_iff.mp hx a ha)

/-- R241, R242: CTOR and DTOR write TXIE at `L0`, their only label. -/
theorem atL0_lifecycleEffect {x : Except Stop State} (hfg : s.fg = .busy i l n) (hi : i = .dtor ∨ ∃ b, i = .ctor b)
    (hx : ∀ t, x = .ok t → t.txie = false ∧ t.u = s.u) : Yields (TransmitEffect s · .fg) (atL0 x l n) := by
  refine yields_iff.mpr fun t h => ?_
  obtain ⟨rfl, h⟩ := atL0_eq_ok.mp h
  obtain ⟨htxie, hu⟩ := hx t h
  exact .lifecycle hfg hi htxie (by rw [hu])

theorem portStep_transmitEffect (hfg : s.fg = .busy i l n) : Yields (TransmitEffect s · .fg) (portStep i s l n) := by
  cases i with
  | rbPush r d => exact atL0_yields l n ((rbPushStep_pushFrame r d s).mono fun _ h => h.transmitEffect)
  | rbPop r => exact atL0_yields l n ((rbPopStep_readFrame r s).mono fun _ h => h.transmitEffect)
  | rbEmpty r => exact atL0_yields l n ((rbEmptyStep_sameButFg r s).mono fun _ h => h.transmitEffect)
  | rbFull r => exact atL0_yields l n ((rbFullStep_sameButFg r s).mono fun _ h => h.transmitEffect)
  | prime => exact primeCmdStep_transmitEffect hfg
  | putc _ | puts _ | write _ => exact writeFamily_transmitEffect rfl hfg
  | getc => exact atL0_yields l n ((getcStep_readFrame s).mono fun _ h => h.transmitEffect)
  | readable => exact atL0_yields l n ((readableStep_sameButFg s).mono fun _ h => h.transmitEffect)
  | sync => exact (syncStep_sameButFg s l n).mono fun _ h => h.transmitEffect
  | ctor b =>
    refine atL0_lifecycleEffect hfg (.inr ⟨b, rfl⟩) fun _ h => ?_
    obtain ⟨-, rfl⟩ := ctorStep_eq_ok.mp h
    exact ⟨rfl, rfl⟩
  | dtor =>
    refine atL0_lifecycleEffect hfg (.inl rfl) fun _ h => ?_
    obtain ⟨-, rfl⟩ := dtorStep_eq_ok.mp h
    exact ⟨rfl, rfl⟩
  | txisr | rxisr => trivial

theorem settle_transmitEffect {x : Except Stop State} (hx : Yields (TransmitEffect s · m) x)
    (h : s.settle x = .next t) : TransmitEffect s t m := by
  obtain rfl | ⟨-, rfl⟩ | ⟨k, -, rfl⟩ := State.settle_eq_next.mp h
  · exact hx
  · exact .kept rfl rfl
  · exact .kept (s.raise_txie k) (by rw [s.raise_u])

theorem txServiceStep_drainEffect (s : State) : Yields (DrainEffect s) (txServiceStep s) :=
  (drainIter_drainEffect s).bind fun ⟨_, d⟩ hx => by
    cases d with
    | goOn => exact hx
    | exit => exact hx.congr rfl rfl rfl

theorem exec_txisr_transmitEffect (h : exec .txisr s = .next t) : TransmitEffect s t .txi := by
  obtain ⟨hen, h⟩ | ⟨-, -, rfl⟩ | ⟨-, -, rfl⟩ := exec_txisr_eq_next.mp h
  · have hact := (State.txServiceEnabled_iff.mp hen).2
    exact settle_transmitEffect ((txServiceStep_drainEffect s).mono fun _ => .served hact) h
  · exact .kept rfl rfl
  · exact .kept rfl rfl

theorem rxServiceStep_transmitEffect (s : State) (m : Move) :
    Yields (TransmitEffect s · m) (rxServiceStep s) := by
  refine yields_iff.mpr fun t h => ?_
  obtain ⟨x, hx, ht⟩ := bind_eq_ok.mp h
  obtain ⟨-, v, -, rfl⟩ := State.uartRead_eq_ok.mp hx
  obtain ⟨rb, rb', -, -, rfl⟩ := State.push_eq_ok.mp ht
  exact .kept rfl rfl

theorem exec_rxisr_transmitEffect (m : Move) (h : exec .rxisr s = .next t) : TransmitEffect s t m := by
  obtain ⟨-, h⟩ | ⟨-, rfl⟩ := exec_rxisr_eq_next.mp h
  · exact settle_transmitEffect (rxServiceStep_transmitEffect s m) h
  · exact .kept rfl rfl

/-- The state may be any, so the outstanding command may be an entry code; where FG may step that one drains nothing. -/
theorem exec_transmitEffect_of_at (hat : s.At i l n) (h : exec i s = .next t) : TransmitEffect s t .fg := by
  cases hi : i.issuedBy with
  | port =>
    rw [exec_of_at hi hat] at h
    exact settle_transmitEffect (portStep_transmitEffect hat.2) h
  | dispatch =>
    cases i with
    | txisr =>
      cases exec_txisr_transmitEffect h with
      | kept htxie hwire => exact .kept htxie hwire
      | served hact => simp [(State.fgMayStep_iff.mp hat.1).2] at hact
    | rxisr => exact exec_rxisr_transmitEffect .fg h
    | _ => cases hi

theorem moveStep_transmitEffect (h : moveStep m s = .next t) : TransmitEffect s t m := by
  cases m with
  | fg =>
    rcases fgAgentStep_cases s with ⟨-, e⟩ | ⟨c, -, -, -, ⟨_, -, e⟩ | ⟨i, -, e⟩⟩ | ⟨i, l, n, hat, e⟩
    · cases e.symm.trans h
      exact .kept rfl rfl
    · cases e.symm.trans h
      exact (s.raise_sameButFg _).transmitEffect
    · cases e.symm.trans h
      exact .kept rfl rfl
    · exact exec_transmitEffect_of_at hat (e.symm.trans h)
  | txi => exact exec_txisr_transmitEffect h
  | rxi => exact exec_rxisr_transmitEffect .rxi h
  | env e =>
    cases h
    exact .kept rfl (envStep_txWire s e)

theorem DrainEffect.txie_false (h : DrainEffect s t) (hs : s.txie = false) : t.txie = false := by
  cases h with
  | kept htxie | sent _ _ _ htxie => exact htxie.trans hs
  | detached _ _ _ htxie => exact htxie

theorem DrainEffect.empty_of_detached (h : DrainEffect s t) (hs : s.txie = true) (ht : t.txie = false) :
    s.u.txReady = true ∧ s.tx.map Ring.count = some 0 := by
  cases h with
  | kept htxie | sent _ _ _ htxie => simp [hs, ht] at htxie
  | detached hready hrb h0 => exact ⟨hready, by simp [hrb, h0]⟩

theorem DrainEffect.sends_oldest (h : DrainEffect s t) (hne : t.u.txWire ≠ s.u.txWire) :
    s.u.txReady = true ∧ ∃ rb b, s.tx = some rb ∧ rb.count ≠ 0 ∧ rb.store.read rb.rd = some b ∧
      t.u.txWire = s.u.txWire ++ [b] ∧
      t.tx = some { rb with rd := (rb.rd + 1) % s.cfg.cTx, count := rb.count - 1 } := by
  cases h with
  | kept _ hwire | detached _ _ _ _ hwire => exact absurd hwire hne
  | @sent rb _ b hready hrb hpop _ htx hwire =>
    obtain ⟨-, ⟨⟩⟩ | ⟨h0, -, _, hb, ⟨⟩⟩ := Ring.pop_eq_ok.mp hpop
    exact ⟨hready, rb, b, hrb, h0, hb, hwire, htx⟩

/-- R121: the move that sets TXIE. -/
theorem TransmitEffect.of_set (h : TransmitEffect s t m) (hs : s.txie = false) (ht : t.txie = true) :
    m = .fg ∧ ∃ i n, s.fg = .busy i .p3 n := by
  cases h with
  | kept htxie | detached _ htxie | lifecycle _ _ htxie => simp [hs, ht] at htxie
  | attached hfg => exact ⟨rfl, _, _, hfg⟩
  | primed _ hdrain | served _ hdrain => simp [hdrain.txie_false hs] at ht

/-- R121: the moves that clear it. -/
theorem TransmitEffect.of_cleared (h : TransmitEffect s t m) (hs : s.txie = true) (ht : t.txie = false) :
    (m = .fg ∧ ∃ i l n, s.fg = .busy i l n ∧
      (l = .p1 ∨ (l = .l0 ∧ (i = .dtor ∨ ∃ b, i = .ctor b)) ∨
       (l = .p2 ∧ s.u.txReady = true ∧ s.tx.map Ring.count = some 0))) ∨
    (m = .txi ∧ s.active = true ∧ s.u.txReady = true ∧ s.tx.map Ring.count = some 0) := by
  cases h with
  | kept htxie | attached _ htxie => simp [hs, ht] at htxie
  | detached hfg => exact .inl ⟨rfl, _, _, _, hfg, .inl rfl⟩
  | lifecycle hfg hi => exact .inl ⟨rfl, _, _, _, hfg, .inr (.inl ⟨rfl, hi⟩)⟩
  | primed hfg hdrain => exact .inl ⟨rfl, _, _, _, hfg, .inr (.inr ⟨rfl, hdrain.empty_of_detached hs ht⟩)⟩
  | served hact hdrain => exact .inr ⟨rfl, hact, hdrain.empty_of_detached hs ht⟩

/-- R125: the moves that write the wire are drain iterations. -/
theorem TransmitEffect.of_txWire_ne (h : TransmitEffect s t m) (hne : t.u.txWire ≠ s.u.txWire) :
    ((m = .txi ∧ s.active = true) ∨ (m = .fg ∧ ∃ i n, s.fg = .busy i .p2 n)) ∧ DrainEffect s t := by
  cases h with
  | kept _ hwire | detached _ _ hwire | attached _ _ hwire | lifecycle _ _ _ hwire => exact absurd hwire hne
  | primed hfg hdrain => exact ⟨.inr ⟨rfl, _, _, hfg⟩, hdrain⟩
  | served hact hdrain => exact ⟨.inl ⟨rfl, hact⟩, hdrain⟩

/-- Settles O41: of the effects a move can have on TXIE, those that set it and those that clear it. -/
theorem txieChangesOnlyByTheTable : Obligations.TxieChangesOnlyByTheTable := by
  intro s t hst
  have heff := moveStep_transmitEffect (s := s.takeMove.2) hst
  exact ⟨fun hs ht => by simpa using heff.of_set (by simpa using hs) ht,
    fun hs ht => by simpa using heff.of_cleared (by simpa using hs) ht⟩

/-- Settles O44: a move that writes the wire drains, and the invariant gives TXIE = 0 and ACTIVE = 0 at P2 (R124). -/
theorem onlyDrainsWriteTheHardware : Obligations.OnlyDrainsWriteTheHardware := by
  intro s t hinv hst hne
  obtain ⟨hwho, hdrain⟩ := (moveStep_transmitEffect (s := s.takeMove.2) hst).of_txWire_ne (by simpa using hne)
  refine ⟨?_, by simpa using hdrain.sends_oldest (by simpa using hne)⟩
  obtain ⟨hm, hact⟩ | ⟨hm, i, n, hfg⟩ := hwho
  · exact .inl ⟨hm, s.takeMove_active ▸ hact⟩
  · rw [State.takeMove_fg] at hfg
    obtain ⟨htxie, hact⟩ := (hinv.busyLegal hfg).primeOff (.inl rfl)
    exact .inr ⟨hm, htxie, hact, i, n, hfg⟩

/-! ## Frames of PRIME and TXISR -/

/-- No slot of either instance changes, nor the slot the next push into `tx` stores to. -/
def State.StoresNothing (s t : State) : Prop :=
  t.tx.map Ring.wr = s.tx.map Ring.wr ∧ ∀ q a, t.slot q a = s.slot q a

theorem State.storesNothing_of_eq (htx : t.tx = s.tx) (hrx : t.rx = s.rx) : s.StoresNothing t := by
  refine ⟨congrArg _ htx, fun q a => ?_⟩
  cases q with
  | tx => simp [State.slot, htx]
  | rx => simp [State.slot, hrx]

theorem State.StoresNothing.trans {t' : State} (h : s.StoresNothing t) (h' : t.StoresNothing t') :
    s.StoresNothing t' :=
  ⟨h'.1.trans h.1, fun q a => (h'.2 q a).trans (h.2 q a)⟩

/-- What a drain iteration leaves unchanged: all but the read side of `tx`, TXIE, the transmit side of the UART and the
draws. -/
def State.DrainFrame (s t : State) : Prop :=
  t = { s with tx := t.tx, txie := t.txie, u := { s.u with txReady := t.u.txReady, txWire := t.u.txWire },
               draws := t.draws, freeTick := t.freeTick } ∧
  s.StoresNothing t

/-- What PRIME leaves unchanged: as a drain iteration, and but for the bookkeeping. -/
def State.PrimeFrame (s t : State) : Prop :=
  t = { s with fault := t.fault, fg := t.fg, cpc := t.cpc, results := t.results, tx := t.tx, txie := t.txie,
               u := { s.u with txReady := t.u.txReady, txWire := t.u.txWire }, draws := t.draws,
               freeTick := t.freeTick } ∧
  s.StoresNothing t

/-- What TXISR leaves unchanged: as a drain iteration, and but for ACTIVE and FAULT. -/
def State.TxisrFrame (s t : State) : Prop :=
  t = { s with fault := t.fault, active := t.active, tx := t.tx, txie := t.txie,
               u := { s.u with txReady := t.u.txReady, txWire := t.u.txWire }, draws := t.draws,
               freeTick := t.freeTick } ∧
  s.StoresNothing t

/-- R101: the byte sent leaves its slot as it was. -/
theorem sent_storesNothing {rb rb' : Ring 8} {b : Byte} (hrb : s.tx = some rb)
    (hp : rb.pop s.cfg.cTx = .ok (some b, rb')) : s.StoresNothing (s.sent b rb') := by
  obtain ⟨hstore, hwr⟩ : rb'.store = rb.store ∧ rb'.wr = rb.wr := Ring.pop_store_wr hp
  have htx : (s.sent b rb').tx = some rb' := rfl
  refine ⟨by simp [htx, hrb, hwr], fun q a => ?_⟩
  cases q with
  | tx => simp [State.slot, htx, hrb, hstore]
  | rx => rfl

theorem drainIter_drainFrame (s : State) : Yields (fun x => s.DrainFrame x.1) s.drainIter := by
  refine yields_iff.mpr fun x h => ?_
  obtain ⟨-, rfl⟩ | ⟨-, rb, hrb, ⟨-, rfl⟩ | ⟨b, rb', hp, rfl⟩⟩ := drainIter_cases h
  · exact ⟨rfl, State.storesNothing_of_eq rfl rfl⟩
  · exact ⟨rfl, State.storesNothing_of_eq rfl rfl⟩
  · exact ⟨rfl, sent_storesNothing hrb hp⟩

theorem State.SameButFg.primeFrame (h : s.SameButFg t) : s.PrimeFrame t := by
  rw [h]
  exact ⟨rfl, State.storesNothing_of_eq rfl rfl⟩

theorem State.DrainFrame.goto (h : s.DrainFrame t) (i : Instr) (l : Label) (n : Nat) :
    s.PrimeFrame (t.goto i l n) := by
  obtain ⟨heq, hstore⟩ := h
  refine ⟨?_, hstore.trans (State.storesNothing_of_eq rfl rfl)⟩
  rw [heq]
  rfl

theorem primeStep_primeFrame (s : State) (i : Instr) (k l : Label) (n : Nat) :
    Yields s.PrimeFrame (primeStep i k l n s) := by
  cases l with
  | p0 | p1 | p3 => exact ⟨rfl, State.storesNothing_of_eq rfl rfl⟩
  | p2 => exact (drainIter_drainFrame s).bind fun _ hx => hx.goto i _ n
  | _ => trivial

theorem primeCmdStep_primeFrame (s : State) (l : Label) (n : Nat) : Yields s.PrimeFrame (primeCmdStep s l n) := by
  by_cases h0 : l = .l0
  · subst h0
    exact .after fun _ => State.SameButFg.primeFrame rfl
  · by_cases hk : l = .k1
    · subst hk
      exact State.SameButFg.primeFrame (t := s.complete .none) rfl
    · rw [primeCmdStep_eq_primeStep h0 hk]
      exact primeStep_primeFrame s .prime .k1 l n

theorem State.DrainFrame.txisrFrame (h : s.DrainFrame t) : s.TxisrFrame t := by
  obtain ⟨heq, hstore⟩ := h
  refine ⟨?_, hstore⟩
  rw [heq]

theorem State.DrainFrame.txReturn (h : s.DrainFrame t) : s.TxisrFrame t.txReturn := by
  obtain ⟨heq, hstore⟩ := h
  refine ⟨?_, hstore.trans (State.storesNothing_of_eq rfl rfl)⟩
  rw [heq]
  rfl

theorem State.raise_txisrFrame (s : State) (k : FaultCode) : s.TxisrFrame (s.raise k) := by
  refine ⟨?_, State.storesNothing_of_eq (s.raise_tx k) (s.raise_rx k)⟩
  unfold State.raise
  split <;> rfl

theorem txServiceStep_txisrFrame (s : State) : Yields s.TxisrFrame (txServiceStep s) :=
  (drainIter_drainFrame s).bind fun ⟨_, d⟩ hx => by
    cases d with
    | goOn => exact hx.txisrFrame
    | exit => exact hx.txReturn

theorem exec_txisr_frame (h : exec .txisr s = .next t) : s.TxisrFrame t := by
  obtain ⟨-, h⟩ | ⟨-, -, rfl⟩ | ⟨-, -, rfl⟩ := exec_txisr_eq_next.mp h
  · obtain hok | ⟨-, rfl⟩ | ⟨k, -, rfl⟩ := State.settle_eq_next.mp h
    · exact yields_iff.mp (txServiceStep_txisrFrame s) t hok
    · exact ⟨rfl, State.storesNothing_of_eq rfl rfl⟩
    · exact s.raise_txisrFrame k
  · exact ⟨rfl, State.storesNothing_of_eq rfl rfl⟩
  · exact ⟨rfl, State.storesNothing_of_eq rfl rfl⟩

/-- Settles O55: outside their drain iterations both write bookkeeping, TXIE and ACTIVE only. -/
theorem drainFrame : Obligations.DrainFrame := fun s _ =>
  ⟨exec_frame (i := .prime) rfl (fun _ => State.SameButFg.primeFrame) (primeCmdStep_primeFrame s),
    exec_txisr_frame⟩

end Sys2Proof.Machine

/-! SUPPORT. Proofs of the statements about spec/42_rx_path.md: what the receive service does when it is enabled, and
what it leaves unchanged. -/

namespace Sys2Proof.Machine

variable {s t : State} {rb' : Ring 8}

/-! ## The receive service (R140, R213) -/

/-- What a receive step that pushed its byte leaves: the instance moved on, the byte consumed. -/
def State.received (s : State) (rb' : Ring 8) : State :=
  { s with rx := some rb', u := { s.u with rxReady := false } }

/-- R140: the one answer of the receive step. -/
theorem rxServiceStep_eq_ok : rxServiceStep s = .ok t ↔
    s.u.rxReady = true ∧ ∃ b rb rb', s.u.rxData = some b ∧ s.rx = some rb ∧ rb.push s.cfg.cRx b = .ok rb' ∧
      t = s.received rb' := by
  constructor
  · intro h
    obtain ⟨x, hx, ht⟩ := bind_eq_ok.mp h
    obtain ⟨hready, b, hdata, rfl⟩ := State.uartRead_eq_ok.mp hx
    obtain ⟨rb, rb', hrb, hp, rfl⟩ := State.push_eq_ok.mp ht
    exact ⟨hready, b, rb, rb', hdata, hrb, hp, rfl⟩
  · rintro ⟨hready, b, rb, rb', hdata, hrb, hp, rfl⟩
    exact bind_eq_ok.mpr ⟨_, State.uartRead_eq_ok.mpr ⟨hready, b, hdata, rfl⟩,
      State.push_eq_ok.mpr ⟨rb, rb', hrb, hp, rfl⟩⟩

theorem State.rxServiceEnabled_iff : s.rxServiceEnabled = true ↔
    s.fault = 0#3 ∧ s.active = false ∧ s.rxie = true ∧ s.u.rxReady = true := by
  simp [State.rxServiceEnabled, State.noFault, State.rxRequests, and_assoc]

theorem exec_rxisr_of_not_enabled (h : s.rxServiceEnabled = false) : exec .rxisr s = .next s :=
  exec_rxisr_eq_next.mpr (.inr ⟨h, rfl⟩)

theorem exec_rxisr_of_step (hen : s.rxServiceEnabled = true) (h : rxServiceStep s = .ok t) :
    exec .rxisr s = .next t :=
  exec_rxisr_eq_next.mpr (.inl ⟨hen, State.settle_eq_next.mpr (.inl h)⟩)

/-- Settles O35: the entry code, the push where the service is enabled, and no step where it is not. -/
theorem receiveServiceStep : Obligations.ReceiveServiceStep := by
  obtain ⟨-, hrefused, -⟩ := illegalCommandsAreRefused
  refine ⟨fun lenMax => ⟨decodeRow_eq_some_iff.mpr ⟨by decide, rfl⟩, fun p => (hrefused lenMax p).2⟩,
    fun s => ⟨fun b rb hf hact hrxie hready hdata hrb hwr => ?_, fun hoff => ?_⟩⟩
  · obtain ⟨rb', hp⟩ := Ring.push_of_wr_lt hwr b
    have hstep : rxServiceStep s = .ok (s.received rb') :=
      rxServiceStep_eq_ok.mpr ⟨hready, b, rb, rb', hdata, hrb, hp, rfl⟩
    exact ⟨rb', hp, exec_rxisr_of_step (State.rxServiceEnabled_iff.mpr ⟨hf, hact, hrxie, hready⟩) hstep⟩
  · refine exec_rxisr_of_not_enabled (Bool.eq_false_iff.mpr fun h => ?_)
    obtain ⟨hf, hact, hrxie, hready⟩ := State.rxServiceEnabled_iff.mp h
    simp [hf, hact, hrxie, hready] at hoff

/-! ## Frame of RXISR -/

/-- What RXISR leaves unchanged: all but FAULT, `rx` and `u.rx_ready`, and in `rx` every slot but the one `rx.wr` names. -/
def State.RxisrFrame (s t : State) : Prop :=
  t = { s with fault := t.fault, rx := t.rx, u := { s.u with rxReady := t.u.rxReady } } ∧
  (∀ a, t.slot .tx a = s.slot .tx a) ∧ ∀ a, s.storeSlot .rx ≠ some a → t.slot .rx a = s.slot .rx a

theorem State.rxisrFrame_self (s : State) : s.RxisrFrame s := ⟨rfl, fun _ => rfl, fun _ _ => rfl⟩

theorem State.raise_rxisrFrame (s : State) (k : FaultCode) : s.RxisrFrame (s.raise k) := by
  unfold State.raise
  split
  · exact ⟨rfl, fun _ => rfl, fun _ _ => rfl⟩
  · exact s.rxisrFrame_self

theorem rxServiceStep_rxisrFrame (s : State) : Yields s.RxisrFrame (rxServiceStep s) := by
  refine yields_iff.mpr fun t h => ?_
  obtain ⟨-, b, rb, rb', -, hrb, hp, rfl⟩ := rxServiceStep_eq_ok.mp h
  have hrx : (s.received rb').rx = some rb' := rfl
  refine ⟨rfl, fun _ => rfl, fun a ha => ?_⟩
  have hne : a ≠ rb.wr := by
    rintro rfl
    exact ha (by simp [State.storeSlot, hrb])
  simp [State.slot, hrx, hrb, Ring.push_read_of_ne hp hne]

/-- Settles O56: the step pushes into `rx`, or records a fault, or nothing happens. -/
theorem rxisrFrame : Obligations.RxisrFrame := by
  intro s t h
  obtain ⟨-, h⟩ | ⟨-, rfl⟩ := exec_rxisr_eq_next.mp h
  · obtain hok | ⟨-, rfl⟩ | ⟨k, -, rfl⟩ := State.settle_eq_next.mp h
    · exact yields_iff.mp (rxServiceStep_rxisrFrame s) t hok
    · exact State.rxisrFrame_self _
    · exact s.raise_rxisrFrame k
  · exact State.rxisrFrame_self _

end Sys2Proof.Machine

/-! SUPPORT. Proofs of the statements about spec/43_port_surface.md: GETC and SYNC, the entry and the enqueue loop of the
write family, its frame, and that on a non-blocking port every call of it completes. -/

namespace Sys2Proof.Machine

variable {s t : State} {rb : Ring 8} {i : Instr} {l : Label} {n : Nat}

/-! ## GETC and SYNC (R154, R156) -/

/-- R154: GETC is the pop with the byte taken as the result. -/
theorem portStep_getc {x : Option Byte × State} {v : Byte} (hlife : s.life = true) (hpop : s.pop .rx = .ok x)
    (hv : x.1 = some v) : portStep .getc s .l0 n = .ok (x.2.complete (.byte v)) := by
  simp [portStep, atL0, getcStep, hlife, hpop, hv]

/-- Settles O26: the lifecycle check, the empty pop, which faults here, and the pop. -/
theorem getcTakesByte : Obligations.GetcTakesByte := by
  refine ⟨fun _ => decode_eq_ok_iff.mpr ⟨by decide, rfl, rfl⟩, fun s n hat => ⟨exec_of_not_life rfl nofun hat,
    fun rb hlife hrb h0 => ?_, fun rb v hlife hrb h0 hrd hv => ?_⟩⟩
  · have hpop := State.pop_rx hrb (Ring.pop_eq_ok.mpr (.inl ⟨h0, rfl⟩))
    exact exec_of_portStep_eq_raise rfl hat (by simp [portStep, atL0, getcStep, hlife, hpop])
  · have hpop := State.pop_rx hrb (Ring.pop_eq_ok.mpr (.inr ⟨h0, hrd, v, hv, rfl⟩))
    exact exec_of_portStep_eq_ok rfl hat (portStep_getc hlife hpop rfl)

/-- A port command whose micro-step holds changes nothing (R10). -/
theorem exec_of_portStep_eq_hold (hp : i.issuedBy = .port) (hat : s.At i l n)
    (h : portStep i s l n = .error .hold) : exec i s = .next s := by
  rw [exec_of_at hp hat, h, State.settle]

/-- Settles O29: the two labels, `S1` by whether `tx` is empty. -/
theorem syncWaitsForEmpty : Obligations.SyncWaitsForEmpty := by
  refine ⟨fun _ => decode_eq_ok_iff.mpr ⟨by decide, rfl, rfl⟩, fun s n => ⟨exec_of_not_life rfl nofun,
    fun hat hlife => ?_, fun rb hat hrb h0 => ?_, fun rb hat hrb h0 => ?_⟩⟩
  · have hstep : portStep .sync s .l0 n = .ok (s.goto .sync .s1 n) := by simp [portStep, syncStep, hlife]
    exact exec_of_portStep_eq_ok rfl hat hstep
  · have hq : s.ringEmpty .tx = .ok false := State.ringEmpty_eq_ok.mpr ⟨rb, hrb, by simp [Ring.isEmpty, h0]⟩
    exact exec_of_portStep_eq_hold rfl hat (by simp [portStep, syncStep, hq])
  · have hq : s.ringEmpty .tx = .ok true := State.ringEmpty_eq_ok.mpr ⟨rb, hrb, by simp [Ring.isEmpty, h0]⟩
    have hstep : portStep .sync s .s1 n = .ok (s.complete .none) := by simp [portStep, syncStep, hq]
    exact exec_of_portStep_eq_ok rfl hat hstep

/-! ## What the write family sends, and its entry (R151 to R153, R157) -/

/-- R151: format D8. -/
theorem decode_putc (lenMax : Nat) (d : Byte) : decode lenMax (0x60#8 ++ d) .none = .ok (.putc d) := by
  refine decode_eq_ok_iff.mpr ⟨?_, rfl, rfl⟩
  simp [encode, mkWord, Instr.opcode, Instr.sBit, Instr.dByte, Instr.payload]

/-- R152, R153: format P, whose word is the same for every payload. -/
theorem decode_puts_write {lenMax : Nat} (b : Buffer) (hb : b.fits lenMax = true) :
    decode lenMax 0x7000#16 b.payload = .ok (.puts b) ∧ decode lenMax 0x8000#16 b.payload = .ok (.write b) := by
  have hputs : mkWord 0x7#4 false 0#8 = 0x7000#16 := by decide
  have hwrite : mkWord 0x8#4 false 0#8 = 0x8000#16 := by decide
  exact ⟨decode_eq_ok_iff.mpr ⟨congrArg₂ Command.mk hputs rfl, hb, rfl⟩,
    decode_eq_ok_iff.mpr ⟨congrArg₂ Command.mk hwrite rfl, hb, rfl⟩⟩

/-- R152: the body has no 0x00, and it ends where the list ends or right before one. -/
theorem cStringBody_spec (bs : List Byte) :
    0#8 ∉ cStringBody bs ∧ (bs = cStringBody bs ∨ ∃ rest, bs = cStringBody bs ++ 0#8 :: rest) := by
  induction bs with
  | nil => simp [cStringBody]
  | cons b bs ih =>
    rw [cStringBody]
    split
    next hb => exact ⟨by simp, .inr ⟨bs, by rw [hb, List.nil_append]⟩⟩
    next hb =>
      obtain ⟨hzero, hsplit⟩ := ih
      refine ⟨by simp [hzero, Ne.symm hb], ?_⟩
      simpa using hsplit

/-- R157: with nothing to send the result is COUNT(0). -/
theorem writeFamilyResult_of_sends_nil (hi : i.isWriteFamily = true) {cfg : Config} (h : i.sends cfg = []) :
    i.writeFamilyResult = .count 0 := by
  cases i with
  | putc d => cases h
  | puts p =>
    cases p with
    | null => rfl
    | bytes bs => simp [Instr.sends, putsBytes] at h
  | write p =>
    cases p with
    | null => rfl
    | bytes bs =>
      cases h
      rfl
  | _ => cases hi

/-- R157: a call with nothing to send completes at `L0`. -/
theorem exec_writeFamily_noOp (hi : i.isWriteFamily = true) (hs : i.sends s.cfg = []) (hat : s.At i .l0 n)
    (hlife : s.life = true) : exec i s = .next (s.complete (.count 0)) := by
  refine exec_of_portStep_eq_ok (issuedBy_of_isWriteFamily hi) hat ?_
  simp [portStep_writeFamily hi, hs, atL0, noOpWrite, hlife]

theorem ne_ctor_of_isWriteFamily (hi : i.isWriteFamily = true) (b : Bool) : i ≠ .ctor b := by
  rintro rfl
  cases hi

/-- Settles O33: the words, the bytes and results read off the definitions, and the three forms of `L0`. -/
theorem writeFamilyEntry : Obligations.WriteFamilyEntry := by
  refine ⟨decode_putc, fun _ => decode_puts_write .null rfl,
    fun _ bs hle => decode_puts_write (.bytes bs) (decide_eq_true hle),
    fun _ _ _ => ⟨rfl, rfl, rfl, rfl, rfl, rfl, rfl, rfl⟩, cStringBody_spec, fun s i n hi hat => ⟨?_, ?_, ?_⟩⟩
  · exact exec_of_not_life (issuedBy_of_isWriteFamily hi) (ne_ctor_of_isWriteFamily hi) hat
  · exact fun hlife hs => exec_writeFamily_noOp hi hs hat hlife
  · exact fun hlife hs => exec_writeFamily_l0 hi hs hat hlife

/-! ## The enqueue loop (R150) -/

/-- R150: `W1` waits only with CFG.BOF = 1 and `tx` full. -/
theorem mustWait_eq {bof : Bool} (hbof : s.cfgBof = some bof) (hrb : s.tx = some rb) :
    s.mustWait = .ok (bof && decide (rb.count = s.cfg.cTx)) := by
  have hfull : s.ringFull .tx = .ok (decide (rb.count = s.cfg.cTx)) := State.ringFull_eq_ok.mpr ⟨rb, hrb, rfl⟩
  cases bof <;> simp [State.mustWait, hbof, hfull]

/-- R30: the commands with the label `W1` are those of the write family that send a byte. -/
theorem isWriteFamily_of_hasLabel_w1 (h : i.hasLabel s.cfg .w1 = true) :
    i.isWriteFamily = true ∧ i.sends s.cfg ≠ [] := by
  simpa [Instr.hasLabel] using h

/-- Settles O32: `W1` by whether it waits, and `W9`. -/
theorem enqueueLoopSteps : Obligations.EnqueueLoopSteps := by
  intro s i n rb hi hrb
  obtain ⟨hw, hs⟩ := isWriteFamily_of_hasLabel_w1 hi
  refine ⟨fun hat hbof hfull => ?_, fun bof b hat hbof hfree hwr hb => ?_, fun hat => ?_⟩
  · refine exec_of_portStep_eq_hold (issuedBy_of_isWriteFamily hw) hat ?_
    simp [portStep_writeFamily hw, hs, enqueueStep, enqueueByte, mustWait_eq hbof hrb, hfull]
  · obtain ⟨rb', hp⟩ := Ring.push_of_wr_lt hwr b
    have hwait : s.mustWait = .ok false := by
      rw [mustWait_eq hbof hrb]
      rcases hfree with rfl | hne
      · rfl
      · simp [hne]
    refine ⟨rb', hp, exec_writeFamily_enqueue hw hs hat nofun ?_⟩
    simp [enqueueStep, enqueueByte, hwait, hb, State.push_tx hrb hp, State.goto, State.setInstance]
  · exact exec_writeFamily_enqueue hw hs hat nofun rfl

/-! ## Frame of the write family -/

/-- A port command's next state: bookkeeping only, or what the micro-step at the label FG is at answered. -/
theorem exec_eq_next_cases (hp : i.issuedBy = .port) (h : exec i s = .next t) :
    s.SameButFg t ∨ ∃ l n, s.fg = .busy i l n ∧ portStep i s l n = .ok t := by
  rw [exec_eq_fgStep hp] at h
  rcases State.fgStep_eq_next.mp h with ⟨-, rfl⟩ | ⟨-, -, rfl⟩ | ⟨-, j, l, n, hfg, ⟨-, rfl⟩ | ⟨rfl, h⟩⟩
  · exact .inl rfl
  · exact .inl rfl
  · exact .inl rfl
  · rcases State.settle_eq_next.mp h with hok | ⟨-, rfl⟩ | ⟨k, -, rfl⟩
    · exact .inr ⟨l, n, hfg, hok⟩
    · exact .inl rfl
    · exact .inl (s.raise_sameButFg k)

theorem enqueueByte_pushFrame (s : State) (i : Instr) (bs : List Byte) (n : Nat) :
    Yields s.PushFrame (enqueueByte i bs n s) := by
  refine .after fun wait => ?_
  cases wait with
  | true => trivial
  | false =>
    cases hb : bs[n]? with
    | none => trivial
    | some b =>
      refine (yields_iff.mpr fun _ => id).bind fun u hu => ?_
      obtain ⟨-, hslots⟩ := pushTx_pushFrame .none hu
      obtain ⟨_, _, -, -, rfl⟩ := State.push_eq_ok.mp hu
      exact ⟨rfl, hslots⟩

/-- A micro-step of the write family runs the prime sequence or writes bookkeeping, except the push at `W1`. -/
theorem writeFamily_frame (hi : i.isWriteFamily = true) (s : State) (l : Label) (n : Nat) :
    Yields (fun t => s.PrimeFrame t ∨ (l = .w1 ∧ s.PushFrame t)) (portStep i s l n) := by
  have hbook : ∀ t, s.SameButFg t → s.PrimeFrame t ∨ (l = .w1 ∧ s.PushFrame t) := fun _ h => .inl h.primeFrame
  rw [portStep_writeFamily hi]
  split
  · exact atL0_yields l n (.after fun _ => hbook _ rfl)
  · split
    · exact .after fun _ => hbook _ rfl
    · by_cases h1 : l = .w1
      · subst h1
        exact (enqueueByte_pushFrame s i _ n).mono fun _ h => .inr ⟨rfl, h⟩
      · by_cases h9 : l = .w9
        · subst h9
          exact hbook _ rfl
        · rw [enqueueStep_eq_primeStep h1 h9]
          exact (primeStep_primeFrame s i .w9 l n).mono fun _ => .inl

/-- Settles O54: the frame of the prime sequence, and at `W1` that of a push. -/
theorem writeFamilyFrame : Obligations.WriteFamilyFrame := by
  intro s t i hi h
  have hcases : s.PrimeFrame t ∨ ((∃ n, s.fg = .busy i .w1 n) ∧ s.PushFrame t) := by
    rcases exec_eq_next_cases (issuedBy_of_isWriteFamily hi) h with hbook | ⟨l, n, hfg, hok⟩
    · exact .inl hbook.primeFrame
    · refine (yields_iff.mp (writeFamily_frame hi s l n) t hok).imp_right ?_
      rintro ⟨rfl, hpush⟩
      exact ⟨⟨n, hfg⟩, hpush⟩
  rcases hcases with ⟨heq, -, hslot⟩ | ⟨⟨n, hfg⟩, heq, hrx, htx⟩
  · exact ⟨heq, hslot .rx, fun a _ => hslot .tx a, fun _ => hslot .tx⟩
  · refine ⟨?_, hrx, htx, fun hne => absurd hfg (hne n)⟩
    rw [heq]

/-! ## A call on a non-blocking port completes (R150 to R153, R158) -/

/-- `s` with what drain iterations may write as it is in `t`: `tx`, TXIE, the UART and the draws. -/
def State.withDrain (s t : State) : State :=
  { s with tx := t.tx, txie := t.txie, u := t.u, draws := t.draws, freeTick := t.freeTick }

/-- R122: the loop at P2 that `s` enters leaves all of `s` but what drain iterations write. -/
theorem drainLoop_p2_from (hi : i.hasLabel s.cfg .p0 = true) (hat : s.At i .p2 n) :
    DrainLoop i (fun t => t = s.withDrain t) (fun t => (s.withDrain t).goto i .p3 n) where
  goOn := fun {u} _ _ hu h => (drainLoop_p2 i n).goOn (by rw [hu]; exact ⟨hi, hat⟩) h
  exit := fun {u t} hu h => by
    have hstep := (drainLoop_p2 i n).exit (by rw [hu]; exact ⟨hi, hat⟩) h
    have ht : t = s.withDrain t := by
      obtain ⟨-, ⟨⟩⟩ | ⟨-, _, -, ⟨-, ⟨⟩⟩ | ⟨_, _, -, ⟨⟩⟩⟩ := drainIter_cases h
      · exact hu
      · rw [hu]
        rfl
    rw [hstep, ← ht]
  keep := fun {u} _ _ hu => by
    rw [hu]
    rfl

theorem runInstr_p2_to_p3 (hi : i.hasLabel s.cfg .p0 = true) (hat : s.At i .p2 n) (hrb : s.tx = some rb)
    (hl : rb.Legal s.cfg.cTx) : ∃ m t, runInstr i m s = .next ((s.withDrain t).goto i .p3 n) := by
  obtain ⟨m, t, -, hrun⟩ := (drainLoop_p2_from hi hat).ends (s := s) rfl hrb hl
  exact ⟨m, t, hrun⟩

/-- R122, R129: whatever the draws, the prime sequence reaches its continuation. -/
theorem runInstr_primeSequence (hi : i.hasLabel s.cfg .p0 = true) (hat : s.At i .p0 n) (hrb : s.tx = some rb)
    (hl : rb.Legal s.cfg.cTx) :
    ∃ m t, runInstr i m s = .next ((s.withDrain t).goto i i.continuation n) := by
  cases hready : s.u.txReady with
  | false => exact ⟨1, s, runInstr_succ (exec_of_primeStep hi rfl hat (primeStep_p0_of_busy hready))⟩
  | true =>
    have hp0 := exec_of_primeStep hi rfl hat (primeStep_p0_of_ready hready)
    have hp1 := exec_of_primeStep (s := s.goto i .p1 n) hi rfl ⟨hat.1, rfl⟩ rfl
    obtain ⟨m, t, hp2⟩ := runInstr_p2_to_p3 (s := (s.setTxie false).goto i .p2 n) hi ⟨hat.1, rfl⟩ hrb hl
    have hp3 := exec_of_primeStep (s := (s.withDrain t).goto i .p3 n) hi rfl ⟨hat.1, rfl⟩ rfl
    have hrun : runInstr i (m + 1 + 2) s = .next ((s.withDrain (t.setTxie true)).goto i i.continuation n) :=
      calc runInstr i (m + 1 + 2) s
          = runInstr i (m + 1 + 1) (s.goto i .p1 n) := runInstr_succ hp0
        _ = runInstr i (m + 1) ((s.setTxie false).goto i .p2 n) := runInstr_succ hp1
        _ = runInstr i 1 ((s.withDrain t).goto i .p3 n) := runInstr_add hp2
        _ = _ := runInstr_succ hp3
    exact ⟨_, _, hrun⟩

/-- R22: the unread slots of a legal ring are written, so it holds some queue. -/
theorem Ring.Legal.exists_holds {w c : Nat} {rb : Ring w} (h : rb.Legal c) : ∃ q, rb.Holds c q := by
  refine ⟨List.ofFn fun k : Fin rb.count => (rb.store.read ((rb.rd + k) % c)).get (h.written k k.isLt),
    by simp, fun k v hv => ?_⟩
  obtain ⟨-, hread⟩ : k < rb.count ∧ rb.store.read ((rb.rd + k) % c) = some v := by
    simpa [List.getElem?_ofFn] using hv
  exact hread

theorem State.Inv.exists_tx (h : s.Inv) (hlife : s.life = true) : ∃ rb, s.tx = some rb ∧ rb.Legal s.cfg.cTx := by
  obtain ⟨rb, hrb⟩ := Option.isSome_iff_exists.mp (h.txLife.trans hlife)
  exact ⟨rb, hrb, h.txLegal rb hrb⟩

/-- Settles O37: a no-op form is one step; the others enter, push each byte, run the prime sequence and return. -/
theorem nonBlockingWriteCompletes : Obligations.NonBlockingWriteCompletes := by
  intro s i k hinv hat hi hlife hbof
  by_cases hs : i.sends s.cfg = []
  · have hstep := exec_writeFamily_noOp hi hs hat hlife
    exact ⟨1, _, runInstr_succ hstep, rfl, rfl, by rw [writeFamilyResult_of_sends_nil hi hs]; rfl⟩
  · obtain ⟨rb, hrb, hlegal⟩ := hinv.exists_tx hlife
    obtain ⟨q, hq⟩ := hlegal.exists_holds
    obtain ⟨rb', hp, hlegal', -⟩ := hlegal.pushAll (vs := i.sends s.cfg) hq
    have hlabel : i.hasLabel s.cfg .p0 = true := by simp [Instr.hasLabel, hi, hs]
    have hentry := exec_writeFamily_l0 hi hs hat hlife
    have hloop := runInstr_enqueue (s := s.goto i .w1 0) (pre := []) hi rfl hs ⟨hat.1, rfl⟩ hbof hrb hp
    obtain ⟨m, t, hprime⟩ := runInstr_primeSequence (n := (i.sends s.cfg).length)
      (s := (s.setInstance .tx rb').goto i .p0 (i.sends s.cfg).length) hlabel ⟨hat.1, rfl⟩ rfl hlegal'
    rw [Instr.continuation_of_isWriteFamily hi] at hprime
    have hreturn := exec_writeFamily_enqueue (s := (s.withDrain t).goto i .w9 (i.sends s.cfg).length)
      hi hs ⟨hat.1, rfl⟩ nofun rfl
    have hrun : runInstr i ((i.sends s.cfg).length + (m + 1) + 1) s =
        .next (((s.withDrain t).goto i .w9 (i.sends s.cfg).length).complete i.writeFamilyResult) :=
      calc runInstr i ((i.sends s.cfg).length + (m + 1) + 1) s
          = runInstr i ((i.sends s.cfg).length + (m + 1)) (s.goto i .w1 0) := runInstr_succ hentry
        _ = runInstr i (m + 1) ((s.setInstance .tx rb').goto i .p0 (i.sends s.cfg).length) := runInstr_add hloop
        _ = runInstr i 1 ((s.withDrain t).goto i .w9 (i.sends s.cfg).length) := runInstr_add hprime
        _ = _ := runInstr_succ hreturn
    exact ⟨_, _, hrun, rfl, rfl, rfl⟩

end Sys2Proof.Machine

/-! SUPPORT. Proofs of the statements about spec/60_exceptions.md: what faults and the environment do, that INTERNAL is
recorded only for a ready byte without a value, that interrupt service is apart from the foreground, and quiescence. -/

namespace Sys2Proof.Machine

variable {s t : State} {i : Instr} {l : Label} {n : Nat} {m : Move} {k : FaultCode}

/-! ## Faults (R200, R205) -/

theorem settle_raise_of_noFault (h : s.fault = 0#3) (k : FaultCode) :
    s.settle (.error (.raise k)) = .next { s with fault := k.bits } := by
  simp [State.settle, State.raise, h]

theorem settle_raise_of_fault (h : s.fault ≠ 0#3) (k : FaultCode) : s.settle (.error (.raise k)) = .next s := by
  simp [State.settle, State.raise, h]

theorem State.fgMayStep_of_fault (h : s.fault ≠ 0#3) : s.fgMayStep = false :=
  Bool.eq_false_iff.mpr fun hmay => h (State.fgMayStep_iff.mp hmay).1

theorem State.fgMayStep_of_active (h : s.active = true) : s.fgMayStep = false := by
  simp [State.fgMayStep, h]

theorem State.txServiceEnabled_of_fault (h : s.fault ≠ 0#3) : s.txServiceEnabled = false :=
  Bool.eq_false_iff.mpr fun hen => h (State.txServiceEnabled_iff.mp hen).1

theorem State.txEntryEnabled_of_fault (h : s.fault ≠ 0#3) : s.txEntryEnabled = false :=
  Bool.eq_false_iff.mpr fun hen => h (State.txEntryEnabled_iff.mp hen).1

theorem State.rxServiceEnabled_of_fault (h : s.fault ≠ 0#3) : s.rxServiceEnabled = false :=
  Bool.eq_false_iff.mpr fun hen => h (State.rxServiceEnabled_iff.mp hen).1

theorem State.rxServiceEnabled_of_active (h : s.active = true) : s.rxServiceEnabled = false := by
  simp [State.rxServiceEnabled, h]

/-- R200: a recorded fault halts the three agents of the block. -/
theorem moveStep_of_fault (h : s.fault ≠ 0#3) (hm : m.agent ≠ .env) : moveStep m s = .next s := by
  cases m with
  | fg => exact fgAgentStep_of_not_mayStep (State.fgMayStep_of_fault h)
  | txi =>
    exact exec_txisr_eq_next.mpr
      (.inr (.inr ⟨State.txServiceEnabled_of_fault h, State.txEntryEnabled_of_fault h, rfl⟩))
  | rxi => exact exec_rxisr_of_not_enabled (State.rxServiceEnabled_of_fault h)
  | env e => exact absurd rfl hm

/-- R226: an environment step writes only the UART. -/
theorem State.SameBlock.envStep (h : s.SameBlock t) (e : EnvStep) : s.SameBlock (t.envStep e) := by
  rw [h]
  rfl

theorem step_of_fault (h : s.fault ≠ 0#3) : ∃ t, step s = .next t ∧ s.SameBlock t := by
  have hb : s.SameBlock s.takeMove.2 := s.takeMove_sameBlock
  have hf : s.takeMove.2.fault ≠ 0#3 := s.takeMove_fault ▸ h
  unfold step
  cases s.takeMove.1 with
  | env e => exact ⟨_, rfl, hb.envStep e⟩
  | fg | txi | rxi => exact ⟨_, moveStep_of_fault hf nofun, hb⟩

/-- R233. -/
theorem State.quiescent_iff : s.quiescent = true ↔
    s.fg = .idle ∧ s.cpc = s.prog.length ∧ s.active = false ∧ s.fault = 0#3 ∧
      s.txEntryEnabled = false ∧ s.rxServiceEnabled = false := by
  simp [State.quiescent, State.noFault, and_assoc]

theorem State.not_quiescent_of_fault (h : s.fault ≠ 0#3) : s.quiescent = false := by
  refine Bool.eq_false_iff.mpr fun hq => ?_
  obtain ⟨-, -, -, hf, -, -⟩ := State.quiescent_iff.mp hq
  exact h hf

/-- Settles O21: the two ways a raise ends, the halted agents, and the environment, which goes on. -/
theorem faultIsPreciseAndHalts : Obligations.FaultIsPreciseAndHalts :=
  ⟨fun _ k h => settle_raise_of_noFault h k, fun _ k h => settle_raise_of_fault h k, fun _ => step_of_fault,
    fun _ _ => moveStep_of_fault, fun _ _ => rfl, fun _ => State.not_quiescent_of_fault⟩

/-- Settles O22: the first check of each command, and CTOR's own. -/
theorem lifecycleFault : Obligations.LifecycleFault := by
  refine fun s i n hat hp => ⟨fun hc => exec_of_not_life hp hc hat, ?_⟩
  rintro b rfl hlife
  exact exec_of_portStep_eq_raise hp hat (by simp [portStep, atL0, ctorStep, hlife])

/-! ## The environment (R221, R223) and quiescence (R233) -/

theorem envStep_txFall_of_mayFall (h : s.cfg.txReadyMayFall = true) :
    s.envStep .txFall = { s with u := { s.u with txReady := false } } := by
  simp [State.envStep, Uart.envStep, h]

theorem envStep_txFall_of_not_mayFall (h : s.cfg.txReadyMayFall = false) : s.envStep .txFall = s := by
  simp [State.envStep, Uart.envStep, h]

/-- Settles O36: TX_FALL by the configuration; the other two steps are their definition. -/
theorem environmentSteps : Obligations.EnvironmentSteps := fun _ =>
  ⟨rfl, fun h => congrArg _ (envStep_txFall_of_mayFall h), fun h => congrArg _ (envStep_txFall_of_not_mayFall h),
    fun _ => rfl⟩

/-- With every command done nothing is presented (R79), and no service is enabled. -/
theorem moveStep_of_quiescent (h : s.quiescent = true) (hm : m.agent ≠ .env) : moveStep m s = .next s := by
  obtain ⟨hfg, hcpc, hact, -, hentry, hrx⟩ := State.quiescent_iff.mp h
  cases m with
  | fg => exact fgAgentStep_of_presented_none hfg (List.getElem?_eq_none hcpc.ge)
  | txi => exact exec_txisr_of_not_enabled hact hentry
  | rxi => exact exec_rxisr_of_not_enabled hrx
  | env e => exact absurd rfl hm

/-- Settles O50: the definition's parts, and the move of each agent. -/
theorem quiescentStatesAreAtRest : Obligations.QuiescentStatesAreAtRest := fun _ =>
  ⟨State.quiescent_iff, fun _ => moveStep_of_quiescent⟩

/-! ## INTERNAL (R206, R224; log 14) -/

/-- Settles O17: the read finds no byte, and no fault was recorded before. -/
theorem readyWithoutByteRecordsInternal : Obligations.ReadyWithoutByteRecordsInternal := by
  intro s hen hdata
  obtain ⟨hf, -, -, hready⟩ := State.rxServiceEnabled_iff.mp hen
  have hstep : rxServiceStep s = .error (.raise .internal) := by
    simp [rxServiceStep, State.uartRead, hready, hdata]
  exact exec_rxisr_eq_next.mpr (.inl ⟨hen, hstep ▸ settle_raise_of_noFault hf .internal⟩)

/-- R206: the micro-step does not raise INTERNAL, and what it answers satisfies `P`. -/
def NoInternal {α : Type} (P : α → Prop) : Except Stop α → Prop
  | .ok a => P a
  | .error e => e ≠ .raise .internal

theorem NoInternal.error {α : Type} {P : α → Prop} {e : Stop} (h : e ≠ .raise .internal) :
    NoInternal P (.error e) := h

theorem NoInternal.bind {α β : Type} {P : α → Prop} {Q : β → Prop} {x : Except Stop α} {f : α → Except Stop β}
    (hx : NoInternal P x) (hf : ∀ a, P a → NoInternal Q (f a)) : NoInternal Q (x >>= f) := by
  cases x with
  | error _ => exact hx
  | ok a => exact hf a hx

theorem atL0_noInternal {P : State → Prop} {x : Except Stop State} (l : Label) (n : Nat) (hx : NoInternal P x) :
    NoInternal P (atL0 x l n) := by
  unfold atL0
  split
  · exact hx
  · exact .error nofun

theorem requireLife_noInternal (s : State) : NoInternal (fun _ => s.life = true) s.requireLife := by
  cases hlife : s.life with
  | true => exact requireLife_of_life hlife ▸ rfl
  | false => exact requireLife_of_not_life hlife ▸ .error nofun

theorem requireRole_noInternal (held : Bool) : NoInternal (fun _ => True) (requireRole held) := by
  cases held with
  | true => trivial
  | false => exact .error nofun

namespace State.UartSound

theorem setInstance (hu : s.UartSound) (r : Inst) (rb : Ring 8) : (s.setInstance r rb).UartSound := by
  cases r <;> exact hu

/-- R200: another fault does not turn into INTERNAL. -/
theorem raise (hu : s.UartSound) (hk : k ≠ .internal) : (s.raise k).UartSound := by
  obtain ⟨hdata, hfault⟩ := hu
  refine ⟨by simpa using hdata, ?_⟩
  rw [State.raise_fault]
  split
  · cases k with
    | internal => exact absurd rfl hk
    | _ => decide
  · exact hfault

/-- R223: a delivery makes the byte ready together with its value. -/
theorem envStep (hu : s.UartSound) (e : EnvStep) : (s.envStep e).UartSound := by
  cases e with
  | txRise => exact hu
  | txFall =>
    cases hmay : s.cfg.txReadyMayFall with
    | true => exact envStep_txFall_of_mayFall hmay ▸ hu
    | false => exact (envStep_txFall_of_not_mayFall hmay).symm ▸ hu
  | rxDeliver b => exact ⟨fun _ => rfl, hu.2⟩

theorem settle {x : Except Stop State} (hu : s.UartSound) (hx : NoInternal State.UartSound x)
    (h : s.settle x = .next t) : t.UartSound := by
  obtain rfl | ⟨-, rfl⟩ | ⟨k, rfl, rfl⟩ := State.settle_eq_next.mp h
  · exact hx
  · exact hu
  · exact hu.raise fun hk => hx (congrArg Stop.raise hk)

end State.UartSound

section Constructed

/-! On a constructed legal port the primitives find their instances and, in them, the slots they read. -/

variable (h : s.Inv) (hu : s.UartSound) (hlife : s.life = true)

include h hlife

theorem State.Inv.exists_instance (r : Inst) : ∃ rb, s.instance? r = some rb ∧ rb.Legal (s.capacity r) := by
  have hsome : (s.instance? r).isSome := by
    cases r with
    | tx => exact h.txLife.trans hlife
    | rx => exact h.rxLife.trans hlife
  obtain ⟨rb, hrb⟩ := Option.isSome_iff_exists.mp hsome
  exact ⟨rb, hrb, h.instance_legal hrb⟩

theorem ringEmpty_noInternal (r : Inst) : NoInternal (fun _ => True) (s.ringEmpty r) := by
  obtain ⟨rb, hrb, -⟩ := h.exists_instance hlife r
  exact State.ringEmpty_eq_ok.mpr ⟨rb, hrb, rfl⟩ ▸ trivial

theorem ringFull_noInternal (r : Inst) : NoInternal (fun _ => True) (s.ringFull r) := by
  obtain ⟨rb, hrb, -⟩ := h.exists_instance hlife r
  exact State.ringFull_eq_ok.mpr ⟨rb, hrb, rfl⟩ ▸ trivial

theorem mustWait_noInternal : NoInternal (fun _ => True) s.mustWait := by
  obtain ⟨bof, hbof⟩ := Option.isSome_iff_exists.mp (h.bofLife.trans hlife)
  obtain ⟨rb, hrb, -⟩ := h.exists_instance hlife .tx
  exact mustWait_eq hbof hrb ▸ trivial

include hu

theorem push_noInternal (r : Inst) (v : Byte) : NoInternal State.UartSound (s.push r v) := by
  obtain ⟨rb, hrb, hl⟩ := h.exists_instance hlife r
  obtain ⟨rb', hp, -⟩ := hl.push v
  exact State.push_eq_ok.mpr ⟨rb, rb', hrb, hp, rfl⟩ ▸ hu.setInstance r rb'

theorem pop_noInternal (r : Inst) : NoInternal (fun x => x.2.UartSound) (s.pop r) := by
  obtain ⟨rb, hrb, hl⟩ := h.exists_instance hlife r
  obtain ⟨y, hp, -⟩ := hl.pop
  exact State.pop_eq_ok.mpr ⟨rb, y, hrb, hp, rfl⟩ ▸ hu.setInstance r y.2

/-- R120: a drain iteration writes only while the hardware is ready. -/
theorem drainIter_noInternal : NoInternal (fun x => x.1.UartSound) s.drainIter := by
  obtain ⟨rb, hrb, hl⟩ := h.exists_instance hlife .tx
  cases hready : s.u.txReady with
  | false => exact drainIter_of_busy hready ▸ hu
  | true =>
    obtain h0 | ⟨b, rb', hp, -⟩ := hl.empty_or_popped
    · exact drainIter_of_empty hready hrb h0 ▸ hu
    · exact drainIter_of_pop hready hrb hp ▸ hu

theorem primeStep_noInternal (i : Instr) (k l : Label) (n : Nat) :
    NoInternal State.UartSound (primeStep i k l n s) := by
  cases l with
  | p0 | p1 | p3 => exact hu
  | p2 => exact (drainIter_noInternal h hu hlife).bind fun _ hx => hx
  | _ => exact .error nofun

theorem enqueueByte_noInternal (i : Instr) (bs : List Byte) (n : Nat) :
    NoInternal State.UartSound (enqueueByte i bs n s) := by
  refine (mustWait_noInternal h hlife).bind fun wait _ => ?_
  cases wait with
  | true => exact .error nofun
  | false =>
    cases hb : bs[n]? with
    | none => exact .error nofun
    | some b => exact (push_noInternal h hu hlife .tx b).bind fun _ ht => ht

theorem enqueueStep_noInternal (i : Instr) (bs : List Byte) (res : Result) (l : Label) (n : Nat) :
    NoInternal State.UartSound (enqueueStep i bs res l n s) := by
  by_cases h1 : l = .w1
  · subst h1
    exact enqueueByte_noInternal h hu hlife i bs n
  · by_cases h9 : l = .w9
    · subst h9
      exact hu
    · rw [enqueueStep_eq_primeStep h1 h9]
      exact primeStep_noInternal h hu hlife i .w9 l n

theorem txServiceStep_noInternal : NoInternal State.UartSound (txServiceStep s) :=
  (drainIter_noInternal h hu hlife).bind fun ⟨_, d⟩ hx => by
    cases d <;> exact hx

/-- R140: the byte the service reads is ready, so it has a value. -/
theorem rxServiceStep_noInternal (hready : s.u.rxReady = true) : NoInternal State.UartSound (rxServiceStep s) := by
  obtain ⟨hdata, hfault⟩ := hu
  obtain ⟨b, hb⟩ := Option.isSome_iff_exists.mp (hdata hready)
  obtain ⟨rb, hrb, hl⟩ := h.exists_instance hlife .rx
  obtain ⟨rb', hp, -⟩ := hl.push b
  rw [rxServiceStep_eq_ok.mpr ⟨hready, b, rb, rb', hb, hrb, hp, rfl⟩]
  exact ⟨fun e => absurd e Bool.false_ne_true, hfault⟩

end Constructed

section Command

/-! At `L0` a command checks LIFE first (R205), and past `L0` the port is constructed. -/

variable (h : s.Inv) (hu : s.UartSound) (hlife : l ≠ .l0 → s.life = true)

include h hu

theorem rbPushStep_noInternal (r : Inst) (d : Byte) : NoInternal State.UartSound (rbPushStep r d s) :=
  (requireLife_noInternal s).bind fun _ hlife => (requireRole_noInternal _).bind fun _ _ =>
    (push_noInternal h hu hlife r d).bind fun _ ht => ht

theorem rbPopStep_noInternal (r : Inst) : NoInternal State.UartSound (rbPopStep r s) :=
  (requireLife_noInternal s).bind fun _ hlife => (requireRole_noInternal _).bind fun _ _ =>
    (pop_noInternal h hu hlife r).bind fun _ ht => ht

theorem rbEmptyStep_noInternal (r : Inst) : NoInternal State.UartSound (rbEmptyStep r s) :=
  (requireLife_noInternal s).bind fun _ hlife => (ringEmpty_noInternal h hlife r).bind fun _ _ => hu

theorem rbFullStep_noInternal (r : Inst) : NoInternal State.UartSound (rbFullStep r s) :=
  (requireLife_noInternal s).bind fun _ hlife => (ringFull_noInternal h hlife r).bind fun _ _ => hu

theorem readableStep_noInternal : NoInternal State.UartSound (readableStep s) :=
  (requireLife_noInternal s).bind fun _ hlife => (ringEmpty_noInternal h hlife .rx).bind fun _ _ => hu

theorem getcStep_noInternal : NoInternal State.UartSound (getcStep s) :=
  (requireLife_noInternal s).bind fun _ hlife => (pop_noInternal h hu hlife .rx).bind fun ⟨o, _⟩ ht => by
    cases o with
    | none => exact .error nofun
    | some _ => exact ht

omit h in
theorem ctorStep_noInternal (b : Bool) : NoInternal State.UartSound (ctorStep b s) := by
  unfold ctorStep
  split
  · exact .error nofun
  · exact hu

include hlife

theorem syncStep_noInternal (n : Nat) : NoInternal State.UartSound (syncStep s l n) := by
  cases l with
  | l0 => exact (requireLife_noInternal s).bind fun _ _ => hu
  | s1 =>
    refine (ringEmpty_noInternal h (hlife nofun) .tx).bind fun b _ => ?_
    cases b with
    | true => exact hu
    | false => exact .error nofun
  | _ => exact .error nofun

theorem primeCmdStep_noInternal (n : Nat) : NoInternal State.UartSound (primeCmdStep s l n) := by
  by_cases h0 : l = .l0
  · subst h0
    exact (requireLife_noInternal s).bind fun _ _ => hu
  · by_cases hk : l = .k1
    · subst hk
      exact hu
    · rw [primeCmdStep_eq_primeStep h0 hk]
      exact primeStep_noInternal h hu (hlife h0) .prime .k1 l n

theorem writeFamily_noInternal (hi : i.isWriteFamily = true) (n : Nat) :
    NoInternal State.UartSound (portStep i s l n) := by
  rw [portStep_writeFamily hi]
  split
  · exact atL0_noInternal l n ((requireLife_noInternal s).bind fun _ _ => hu)
  · split
    next => exact (requireLife_noInternal s).bind fun _ _ => hu
    next h0 => exact enqueueStep_noInternal h hu (hlife h0) i _ _ l n

theorem portStep_noInternal (i : Instr) (n : Nat) : NoInternal State.UartSound (portStep i s l n) := by
  cases i with
  | rbPush r d => exact atL0_noInternal l n (rbPushStep_noInternal h hu r d)
  | rbPop r => exact atL0_noInternal l n (rbPopStep_noInternal h hu r)
  | rbEmpty r => exact atL0_noInternal l n (rbEmptyStep_noInternal h hu r)
  | rbFull r => exact atL0_noInternal l n (rbFullStep_noInternal h hu r)
  | prime => exact primeCmdStep_noInternal h hu hlife n
  | putc _ | puts _ | write _ => exact writeFamily_noInternal h hu hlife rfl n
  | getc => exact atL0_noInternal l n (getcStep_noInternal h hu)
  | readable => exact atL0_noInternal l n (readableStep_noInternal h hu)
  | sync => exact syncStep_noInternal h hu hlife n
  | ctor b => exact atL0_noInternal l n (ctorStep_noInternal hu b)
  | dtor => exact atL0_noInternal l n ((requireLife_noInternal s).bind fun _ _ => hu)
  | txisr | rxisr => exact .error nofun

end Command

theorem fgAgentStep_uartSound (h : s.Inv) (hu : s.UartSound) (hst : fgAgentStep s = .next t) : t.UartSound := by
  rcases fgAgentStep_cases s with ⟨-, e⟩ | ⟨c, -, -, -, ⟨_, -, e⟩ | ⟨i, -, e⟩⟩ | ⟨i, l, n, hat, e⟩
  · cases e.symm.trans hst
    exact hu
  · cases e.symm.trans hst
    exact hu.raise nofun
  · cases e.symm.trans hst
    exact hu
  · have hb := h.busyLegal hat.2
    rw [e, exec_of_at hb.port hat] at hst
    exact hu.settle (portStep_noInternal h hu hb.life i n) hst

/-- ACTIVE and RXIE are 1 on a constructed port only (R26, R126). -/
theorem moveStep_uartSound (h : s.Inv) (hu : s.UartSound) (hst : moveStep m s = .next t) : t.UartSound := by
  cases m with
  | fg => exact fgAgentStep_uartSound h hu hst
  | txi =>
    obtain ⟨hen, hst⟩ | ⟨-, -, rfl⟩ | ⟨-, -, rfl⟩ := exec_txisr_eq_next.mp hst
    · obtain ⟨-, hact⟩ := State.txServiceEnabled_iff.mp hen
      exact hu.settle (txServiceStep_noInternal h hu (h.txieLife (h.activeTxie hact))) hst
    · exact hu
    · exact hu
  | rxi =>
    obtain ⟨hen, hst⟩ | ⟨-, rfl⟩ := exec_rxisr_eq_next.mp hst
    · obtain ⟨-, -, hrxie, hready⟩ := State.rxServiceEnabled_iff.mp hen
      exact hu.settle (rxServiceStep_noInternal h hu (h.rxieLife.symm.trans hrxie) hready) hst
    · exact hu
  | env e =>
    cases hst
    exact hu.envStep e

/-- Settles O16: no micro-step of a legal state raises INTERNAL, and only a delivery makes a byte ready. -/
theorem internalFaultIsUnreached : Obligations.InternalFaultIsUnreached := by
  intro s t h hu hst
  have hu' : s.takeMove.2.UartSound := by simpa [State.UartSound] using hu
  exact moveStep_uartSound (h.of_sameBlock s.takeMove_sameBlock) hu' hst

/-! ## Interrupt service and the foreground (R215, R217) -/

/-- The state with another foreground. -/
def State.withFg (s : State) (fg : FgState) (c : Nat) : State := { s with fg := fg, cpc := c }

section OtherForeground

variable (s : State) (fg : FgState) (c : Nat)

@[simp] theorem State.withFg_u : (s.withFg fg c).u = s.u := rfl

@[simp] theorem State.instance?_withFg (r : Inst) : (s.withFg fg c).instance? r = s.instance? r := by
  cases r <;> rfl

@[simp] theorem State.capacity_withFg (r : Inst) : (s.withFg fg c).capacity r = s.capacity r := by
  cases r <;> rfl

@[simp] theorem State.setInstance_withFg (r : Inst) (rb : Ring 8) :
    (s.withFg fg c).setInstance r rb = (s.setInstance r rb).withFg fg c := by
  cases r <;> rfl

@[simp] theorem State.takeDraw_withFg : (s.withFg fg c).takeDraw = (s.takeDraw.1, s.takeDraw.2.withFg fg c) := by
  cases hd : s.draws <;> simp [State.takeDraw, State.withFg, hd]

theorem push_withFg (r : Inst) (v : Byte) : (s.withFg fg c).push r v = (s.push r v).map (·.withFg fg c) := by
  simp only [State.push, State.instance?_withFg, State.capacity_withFg, State.setInstance_withFg]
  cases valueOf (s.instance? r) with
  | error _ => rfl
  | ok rb => cases hp : rb.push (s.capacity r) v <;> simp [hp, Except.map]

theorem pop_withFg (r : Inst) : (s.withFg fg c).pop r = (s.pop r).map fun x => (x.1, x.2.withFg fg c) := by
  simp only [State.pop, State.instance?_withFg, State.capacity_withFg, State.setInstance_withFg]
  cases valueOf (s.instance? r) with
  | error _ => rfl
  | ok rb => cases hp : rb.pop (s.capacity r) <;> simp [hp, Except.map]

theorem uartWrite_withFg (b : Byte) : (s.withFg fg c).uartWrite b = (s.uartWrite b).map (·.withFg fg c) := by
  cases hready : s.u.txReady with
  | false => simp [State.uartWrite, hready, Except.map]
  | true =>
    simp only [State.uartWrite, State.withFg_u, hready, State.takeDraw_withFg, if_true]
    rfl

theorem uartRead_withFg : (s.withFg fg c).uartRead = s.uartRead.map fun x => (x.1, x.2.withFg fg c) := by
  cases hready : s.u.rxReady with
  | false => simp [State.uartRead, hready, Except.map]
  | true => cases hdata : s.u.rxData <;> simp [State.uartRead, hready, hdata, Except.map, State.withFg]

theorem drainIter_withFg : (s.withFg fg c).drainIter = s.drainIter.map fun x => (x.1.withFg fg c, x.2) := by
  cases hready : s.u.txReady with
  | false => simp [State.drainIter, hready, Except.map]
  | true =>
    simp only [State.drainIter, State.withFg_u, hready, if_true, pop_withFg]
    cases s.pop .tx with
    | error _ => rfl
    | ok x =>
      obtain ⟨o, t⟩ := x
      cases o with
      | none => rfl
      | some b =>
        have hw := uartWrite_withFg t fg c b
        cases hb : t.uartWrite b <;> simp [hw, hb, Except.map]

theorem txServiceStep_withFg : txServiceStep (s.withFg fg c) = (txServiceStep s).map (·.withFg fg c) := by
  rw [txServiceStep, txServiceStep, drainIter_withFg]
  cases s.drainIter with
  | error _ => rfl
  | ok x =>
    obtain ⟨t, d⟩ := x
    cases d <;> rfl

theorem rxServiceStep_withFg : rxServiceStep (s.withFg fg c) = (rxServiceStep s).map (·.withFg fg c) := by
  rw [rxServiceStep, rxServiceStep, uartRead_withFg]
  cases s.uartRead with
  | error _ => rfl
  | ok x => exact push_withFg x.2 fg c .rx x.1

theorem State.raise_withFg (k : FaultCode) : (s.withFg fg c).raise k = (s.raise k).withFg fg c := by
  by_cases hf : s.fault = 0#3 <;> simp [State.raise, State.withFg, hf]

variable {s}

theorem settle_withFg {x : Except Stop State} (h : s.settle x = .next t) :
    (s.withFg fg c).settle (x.map (·.withFg fg c)) = .next (t.withFg fg c) := by
  obtain rfl | ⟨rfl, rfl⟩ | ⟨k, rfl, rfl⟩ := State.settle_eq_next.mp h
  · rfl
  · rfl
  · exact congrArg _ (s.raise_withFg fg c k)

/-- The enabling conditions do not read the foreground either. -/
theorem exec_txisr_withFg (h : exec .txisr s = .next t) :
    exec .txisr (s.withFg fg c) = .next (t.withFg fg c) := by
  refine exec_txisr_eq_next.mpr ?_
  obtain ⟨hen, h⟩ | ⟨hoff, hen, rfl⟩ | ⟨hoff, hoff', rfl⟩ := exec_txisr_eq_next.mp h
  · exact .inl ⟨hen, txServiceStep_withFg s fg c ▸ settle_withFg fg c h⟩
  · exact .inr (.inl ⟨hoff, hen, rfl⟩)
  · exact .inr (.inr ⟨hoff, hoff', rfl⟩)

theorem exec_rxisr_withFg (h : exec .rxisr s = .next t) :
    exec .rxisr (s.withFg fg c) = .next (t.withFg fg c) := by
  refine exec_rxisr_eq_next.mpr ?_
  obtain ⟨hen, h⟩ | ⟨hoff, rfl⟩ := exec_rxisr_eq_next.mp h
  · exact .inl ⟨hen, rxServiceStep_withFg s fg c ▸ settle_withFg fg c h⟩
  · exact .inr ⟨hoff, rfl⟩

end OtherForeground

/-- Neither frame lets the foreground or the result log change (R217). -/
theorem State.TxisrFrame.foreground_eq (h : s.TxisrFrame t) : t.fg = s.fg ∧ t.cpc = s.cpc ∧ t.results = s.results := by
  rw [h.1]
  exact ⟨rfl, rfl, rfl⟩

theorem State.RxisrFrame.foreground_eq (h : s.RxisrFrame t) : t.fg = s.fg ∧ t.cpc = s.cpc ∧ t.results = s.results := by
  rw [h.1]
  exact ⟨rfl, rfl, rfl⟩

/-- Settles O47: each service's frame, the same service beside another foreground, and the guards of FG and RXI. -/
theorem interruptsLeaveTheForeground : Obligations.InterruptsLeaveTheForeground := by
  refine ⟨?_, fun s hact => ⟨fgAgentStep_of_not_mayStep (State.fgMayStep_of_active hact),
    exec_rxisr_of_not_enabled (State.rxServiceEnabled_of_active hact)⟩⟩
  rintro s t _ fg c (rfl | rfl) h
  · obtain ⟨hfg, hcpc, hres⟩ := (exec_txisr_frame h).foreground_eq
    exact ⟨hfg, hcpc, hres, exec_txisr_withFg fg c h⟩
  · have hframe : s.RxisrFrame t := rxisrFrame s t h
    obtain ⟨hfg, hcpc, hres⟩ := hframe.foreground_eq
    exact ⟨hfg, hcpc, hres, exec_rxisr_withFg fg c h⟩

end Sys2Proof.Machine

/-! SUPPORT. Proofs of the statements about spec/70_reset_and_hazards.md: power-on, construction and teardown with their
frame, and the two hazards in which bytes stay in `tx` for ever. -/

namespace Sys2Proof.Machine

variable {s t : State} {i : Instr} {l : Label} {n : Nat} {m : Move} {b : Bool}

/-! ## Power-on, CTOR and DTOR (R240 to R243) -/

/-- Settles O12: each field as `State.reset` writes it. With TXIE and RXIE 0 the drawn readiness
bits request nothing. -/
theorem powerOnState : Obligations.PowerOnState :=
  ⟨rfl, rfl, rfl, rfl, rfl, rfl, rfl, rfl, rfl, rfl, rfl, rfl, rfl, rfl, rfl, rfl⟩

theorem exec_ctor_of_not_life (hat : s.At (.ctor b) .l0 n) (hlife : s.life = false) :
    exec (.ctor b) s = .next ((s.construct b).complete .none) :=
  exec_of_portStep_eq_ok rfl hat ((atL0_eq_ok (n := n)).mpr ⟨rfl, ctorStep_eq_ok.mpr ⟨hlife, rfl⟩⟩)

theorem exec_dtor_of_life (hat : s.At .dtor .l0 n) (hlife : s.life = true) :
    exec .dtor s = .next (s.teardown.complete .none) :=
  exec_of_portStep_eq_ok rfl hat ((atL0_eq_ok (n := n)).mpr ⟨rfl, dtorStep_eq_ok.mpr ⟨hlife, rfl⟩⟩)

theorem State.slot_construct_complete (s : State) (b : Bool) (q : Inst) (a : Nat) :
    ((s.construct b).complete .none).slot q a = none := by
  cases q <;> rfl

theorem State.slot_teardown_complete (s : State) (q : Inst) (a : Nat) :
    (s.teardown.complete .none).slot q a = none := by
  cases q <;> rfl

/-- Settles O27: the words, the lifecycle check, and the construction step with no slot written. -/
theorem ctorConstructs : Obligations.CtorConstructs := by
  refine ⟨fun _ => ⟨decode_eq_ok_iff.mpr ⟨by decide, rfl, rfl⟩, decode_eq_ok_iff.mpr ⟨by decide, rfl, rfl⟩⟩,
    fun s b n hat => ⟨?_, fun hlife => ⟨_, exec_ctor_of_not_life hat hlife, rfl, s.slot_construct_complete b⟩⟩⟩
  obtain ⟨-, hctor⟩ := lifecycleFault s _ n hat rfl
  exact hctor b rfl

/-- R79, R241: from IDLE on an unconstructed port CTOR is its start step and its `L0` step. -/
theorem runInstr_ctor (hmay : s.fgMayStep = true) (hfg : s.fg = .idle) (hlife : s.life = false) (b : Bool) :
    runInstr (.ctor b) 2 s = .next (((s.goto (.ctor b) .l0 0).construct b).complete .none) :=
  calc runInstr (.ctor b) 2 s
      = runInstr (.ctor b) 1 (s.goto (.ctor b) .l0 0) := runInstr_succ (exec_of_idle rfl hmay hfg)
    _ = _ := runInstr_succ (exec_ctor_of_not_life (s := s.goto (.ctor b) .l0 0) (n := 0) ⟨hmay, rfl⟩ hlife)

/-- Settles O28: the word, the lifecycle check, the teardown step, the requests it withdraws, and the CTOR after it. -/
theorem dtorTearsDown : Obligations.DtorTearsDown := by
  refine ⟨fun _ => decode_eq_ok_iff.mpr ⟨by decide, rfl, rfl⟩, fun s n hat => ⟨exec_of_not_life rfl nofun hat,
    fun hlife => ⟨_, exec_dtor_of_life hat hlife, rfl, ?_, ?_, fun b => ?_⟩⟩⟩
  · simp [State.txEntryEnabled, State.txRequests]
  · simp [State.rxServiceEnabled, State.rxRequests]
  · exact ⟨_, runInstr_ctor (s := s.teardown.complete .none) hat.1 rfl rfl b, rfl, rfl, rfl, rfl, rfl, rfl⟩

/-- What CTOR and DTOR leave unchanged: all but the construction state, the bookkeeping and FAULT, and the slots unless
LIFE changes, which leaves none a value. -/
def State.LifecycleFrame (s t : State) : Prop :=
  t = { s with fault := t.fault, fg := t.fg, cpc := t.cpc, results := t.results, life := t.life,
               cfgBof := t.cfgBof, txie := t.txie, rxie := t.rxie, tx := t.tx, rx := t.rx } ∧
  ((∀ q a, t.slot q a = s.slot q a) ∨ (t.life ≠ s.life ∧ ∀ q a, t.slot q a = none))

theorem State.SameButFg.lifecycleFrame (h : s.SameButFg t) : s.LifecycleFrame t := by
  refine ⟨?_, .inl h.slot_eq⟩
  rw [h]

theorem ctorStep_lifecycleFrame (b : Bool) (s : State) : Yields s.LifecycleFrame (ctorStep b s) := by
  refine yields_iff.mpr fun t h => ?_
  obtain ⟨hlife, rfl⟩ := ctorStep_eq_ok.mp h
  exact ⟨rfl, .inr ⟨by simp [hlife], s.slot_construct_complete b⟩⟩

theorem dtorStep_lifecycleFrame (s : State) : Yields s.LifecycleFrame (dtorStep s) := by
  refine yields_iff.mpr fun t h => ?_
  obtain ⟨hlife, rfl⟩ := dtorStep_eq_ok.mp h
  exact ⟨rfl, .inr ⟨by simp [hlife], s.slot_teardown_complete⟩⟩

/-- Settles O57: both commands have one labelled step, and it changes LIFE. -/
theorem lifecycleFrame : Obligations.LifecycleFrame := by
  intro s t i hi h
  have hbook : ∀ t, s.SameButFg t → s.LifecycleFrame t := fun _ => State.SameButFg.lifecycleFrame
  rcases hi with rfl | ⟨b, rfl⟩
  · exact exec_frame (i := .dtor) rfl hbook (fun l n => atL0_yields l n (dtorStep_lifecycleFrame s)) h
  · exact exec_frame (i := .ctor b) rfl hbook (fun l n => atL0_yields l n (ctorStep_lifecycleFrame b s)) h

/-! ## Bytes that stay in `tx` with the transmit handler detached (R253, R254) -/

/-- What a foreground that waits on `tx` looks at, with the wire: with TXIE = 0 no other agent writes any of it. -/
def State.transmitView (s : State) :
    FgState × Nat × List Result × Option (Ring 8) × Bool × List Byte × Option Bool × Config :=
  (s.fg, s.cpc, s.results, s.tx, s.txie, s.u.txWire, s.cfgBof, s.cfg)

theorem State.transmitView_eq_iff : t.transmitView = s.transmitView ↔
    t.fg = s.fg ∧ t.cpc = s.cpc ∧ t.results = s.results ∧ t.tx = s.tx ∧ t.txie = s.txie ∧
      t.u.txWire = s.u.txWire ∧ t.cfgBof = s.cfgBof ∧ t.cfg = s.cfg := by
  simp [State.transmitView]

theorem State.takeMove_transmitView (s : State) : s.takeMove.2.transmitView = s.transmitView := by
  simp [State.transmitView]

/-- R126, R212: on a legal port with TXIE = 0 the transmit service neither runs nor starts. -/
theorem exec_txisr_of_detached (hinv : s.Inv) (htxie : s.txie = false) : exec .txisr s = .next s := by
  have hact : s.active = false := Bool.eq_false_iff.mpr fun h => by simp [hinv.activeTxie h] at htxie
  exact exec_txisr_of_not_enabled hact (by simp [State.txEntryEnabled, State.txRequests, htxie])

theorem moveStep_transmitView (hinv : s.Inv) (htxie : s.txie = false) (hm : m ≠ .fg) (h : moveStep m s = .next t) :
    t.transmitView = s.transmitView := by
  cases m with
  | fg => exact absurd rfl hm
  | txi =>
    cases (exec_txisr_of_detached hinv htxie).symm.trans h
    rfl
  | rxi =>
    have hframe : s.RxisrFrame t := rxisrFrame s t h
    rw [hframe.1]
    rfl
  | env e =>
    cases h
    exact State.transmitView_eq_iff.mpr ⟨rfl, rfl, rfl, rfl, rfl, envStep_txWire s e, rfl, rfl⟩

/-- With TXIE = 0 only a move of FG that does not hold can change the view. -/
theorem step_transmitView (hinv : s.Inv) (htxie : s.txie = false)
    (hfg : s.takeMove.1 = .fg → fgAgentStep s.takeMove.2 = .next s.takeMove.2) (h : step s = .next t) :
    t.transmitView = s.transmitView := by
  rw [← s.takeMove_transmitView]
  by_cases hm : s.takeMove.1 = .fg
  · rw [step, hm] at h
    cases (hfg hm).symm.trans h
    rfl
  · exact moveStep_transmitView (hinv.of_sameBlock s.takeMove_sameBlock) (by simpa using htxie) hm h

theorem Reaches.inv (hr : Reaches s t) (hinv : s.Inv) : t.Inv := by
  induction hr with
  | here => exact hinv
  | next _ hst ih => exact stepKeepsInvariant _ _ ih hst

/-- FG holds for ever at a label where, with TXIE = 0, the view alone makes its command hold. -/
theorem Reaches.transmitView_eq (hr : Reaches s t) (hinv : s.Inv) (htxie : s.txie = false)
    (hfg : s.fg = .busy i l n)
    (hhold : ∀ u : State, u.transmitView = s.transmitView → u.At i l n → exec i u = .next u) :
    t.transmitView = s.transmitView := by
  induction hr with
  | here => rfl
  | @next u t hr hst hu =>
    obtain ⟨hufg, -, -, -, hutxie, -⟩ := State.transmitView_eq_iff.mp hu
    refine (step_transmitView (hr.inv hinv) (hutxie.trans htxie) (fun _ => ?_) hst).trans hu
    have hview : u.takeMove.2.transmitView = s.transmitView := u.takeMove_transmitView.trans hu
    cases hmay : u.takeMove.2.fgMayStep with
    | false => exact fgAgentStep_of_not_mayStep hmay
    | true =>
      have hat : u.takeMove.2.At i l n := ⟨hmay, u.takeMove_fg.trans (hufg.trans hfg)⟩
      exact (fgAgentStep_of_at hat).trans (hhold _ hview hat)

theorem State.not_quiescent_of_busy (h : s.fg = .busy i l n) : s.quiescent = false := by
  simp [State.quiescent, h]

/-- Settles O48: `W1` holds by CFG.BOF and `tx` alone (R150), and both are in the view. -/
theorem blockedWriteNeverEnds : Obligations.BlockedWriteNeverEnds := by
  intro s t i n rb hinv hfg hbof hrb hfull htxie hr
  have hlabel : i.hasLabel s.cfg .w1 = true := (hinv.busyLegal hfg).label
  have hview := hr.transmitView_eq hinv htxie hfg fun u hu hat => by
    obtain ⟨-, -, -, hutx, -, -, hubof, hucfg⟩ := State.transmitView_eq_iff.mp hu
    obtain ⟨hwait, -⟩ := enqueueLoopSteps u i n rb (hucfg ▸ hlabel) (hutx.trans hrb)
    exact hwait hat (hubof.trans hbof) (hucfg ▸ hfull)
  obtain ⟨htfg, hcpc, hres, htx, httxie, hwire, -⟩ := State.transmitView_eq_iff.mp hview
  exact ⟨htfg, htx, httxie.trans htxie, hcpc, hres, hwire, State.not_quiescent_of_busy (htfg.trans hfg)⟩

/-- Settles O49: `S1` holds by `tx` alone (R156); a step of another agent than FG leaves the view. -/
theorem strandedBytesStay : Obligations.StrandedBytesStay := by
  refine ⟨fun s t n rb hinv hfg htxie hrb hcount hr => ?_, fun s t hinv _ htxie hm hst => ?_⟩
  · have hview := hr.transmitView_eq hinv htxie hfg fun u hu hat => by
      obtain ⟨-, -, -, hutx, -⟩ := State.transmitView_eq_iff.mp hu
      obtain ⟨-, hsync⟩ := syncWaitsForEmpty
      obtain ⟨-, -, hwait, -⟩ := hsync u n
      exact hwait rb hat (hutx.trans hrb) hcount
    obtain ⟨htfg, -, hres, htx, httxie, hwire, -⟩ := State.transmitView_eq_iff.mp hview
    exact ⟨htfg, htx, httxie.trans htxie, hwire, hres⟩
  · have hview := step_transmitView hinv htxie (fun he => absurd he hm) hst
    obtain ⟨-, -, -, htx, httxie, hwire, -⟩ := State.transmitView_eq_iff.mp hview
    exact ⟨htx, httxie.trans htxie, hwire⟩

end Sys2Proof.Machine
